-- ==== Sys2Proof/Word.lean ====
section
/-! DEFINITION. The word types of the LR35902 core (R6): every general register is 8 bits, every register
pair, SP, PC and memory address is 16 bits, and the tick counter is `TICK_WIDTH` = 32 bits (R7, R29). -/

namespace Sys2Proof

/-- A memory datum or a general register (R6). -/
abbrev Byte := BitVec 8

/-- A register pair, `SP`, `PC` or a memory address (R6). -/
abbrev Word := BitVec 16

/-- The cycle counter `ticks`, `TICK_WIDTH` = 32 bits, wrapping modulo 2^32 (R29). -/
abbrev Ticks := BitVec 32

end Sys2Proof
end

