-- ==== Sys2Proof/Config.lean ====
section
/-! DEFINITION. The parameters of R7 that the model takes as data. Each is fixed for the whole run (R272); the
machine holds them in `State.cfg`, which no move writes, so a statement about every state is a statement about every
value of the parameters. `TICK_WIDTH`, `ILLEGAL_SET`, `BASE_COST`, `TAKEN_EXTRA`, `IDLE_TICKS` and `HIGH_PAGE` have
one value in the spec and are definitions where they are used. -/

namespace Sys2Proof

/-- The parameters of R7 with more than one admitted value. -/
structure Config where
  /-- `CB_IMPLEMENTED : Fin 256 -> Bool`, OPEN in R7 (R84): bit `op2` says whether selector `op2` has a wired handler. -/
  cbImplemented : BitVec 256
  /-- `EI_DELAY`, default false (R92, R224, R225). -/
  eiDelay : Bool
  /-- `STOP_LENGTH = 2`, default false, that is `STOP_LENGTH = 1` (R222). -/
  stopTwoBytes : Bool
  /-- `CB_PREFIX_CHARGED`, default false (R90). -/
  cbPrefixCharged : Bool
deriving DecidableEq, Repr

/-- The values R7 takes, with every secondary code point wired (the convention of 95_test_vectors.md). That
`CB_IMPLEMENTED` is all true is a DESIGN CHOICE, unsafe: log entry 3. -/
def Config.standard : Config where
  cbImplemented := BitVec.allOnes 256
  eiDelay := false
  stopTwoBytes := false
  cbPrefixCharged := false

end Sys2Proof
end

