-- ==== Sys2Proof/Machine/Bits.lean ====
section
/-! DEFINITION. Bit fields, byte order and extension at the widths of the core (R8), used by the decoder and the machine. -/

namespace Sys2Proof

/-- `hi:lo`, the concatenation of two bytes, `hi * 256 + lo` (R8). -/
def word (hi lo : Byte) : Word := hi ++ lo

/-- `v[15:8]` (R8). -/
def hiByte (v : Word) : Byte := v.extractLsb' 8 8

/-- `v[7:0]` (R8). -/
def loByte (v : Word) : Byte := v.extractLsb' 0 8

/-- `sext_16`, the sign extension of a byte (R8, R73). -/
def sext16 (e : Byte) : Word := e.signExtend 16

/-- `zext_16`, the zero extension of a byte (R8). -/
def zext16 (v : Byte) : Word := v.setWidth 16

/-- Bits 7:6 of an opcode byte, the field `x` of R71 (the group of a secondary selector, R79). -/
def fieldX (op : Byte) : BitVec 2 := op.extractLsb' 6 2

/-- Bits 5:3 of an opcode byte, the field `y` of R71. -/
def fieldY (op : Byte) : BitVec 3 := op.extractLsb' 3 3

/-- Bits 2:0 of an opcode byte, the field `z` of R71. -/
def fieldZ (op : Byte) : BitVec 3 := op.extractLsb' 0 3

/-- The opcode byte with fields `x`, `y`, `z` (R71). -/
def opByte (x : BitVec 2) (y z : BitVec 3) : Byte := x ++ y ++ z

/-- The entry a 3-bit code selects in a table of eight, code 0 first. -/
def pick8 {α : Type} (k : BitVec 3) (a0 a1 a2 a3 a4 a5 a6 a7 : α) : α :=
  match k.toNat with
  | 0 => a0 | 1 => a1 | 2 => a2 | 3 => a3 | 4 => a4 | 5 => a5 | 6 => a6 | _ => a7

/-- The entry a 2-bit code selects in a table of four, code 0 first. -/
def pick4 {α : Type} (k : BitVec 2) (a0 a1 a2 a3 : α) : α :=
  match k.toNat with
  | 0 => a0 | 1 => a1 | 2 => a2 | _ => a3

end Sys2Proof
end

