-- ==== Sys2Proof/Syntax.lean ====
section
/-! DEFINITION. The instructions of the LR35902 core as syntax: one constructor per row of spec/opcode_table.json,
named after the row's mnemonic (`mHL` stands for `(HL)`, `mHLi` for `(HL+)`, `mHLd` for `(HL-)`, `mC` for `(C)`,
`ma8` and `ma16` for `(a8)` and `(a16)`), and the operand types they carry. The `Instr.…` builders at the end name
the rows by the operand fields of R74 to R80, so that one statement can speak of all rows of one rule. -/

namespace Sys2Proof

/-- The 8-bit registers an `r` field can name (R74). Code 6 names the byte at `HL` and is no register. -/
inductive Reg8 where
  | b | c | d | e | h | l | a
deriving DecidableEq, Repr

/-- The 16-bit registers of the `rr` field (R75). -/
inductive Reg16 where
  | bc | de | hl | sp
deriving DecidableEq, Repr

/-- The register pairs of the stack field `qq` (R76). -/
inductive StackReg where
  | bc | de | hl | af
deriving DecidableEq, Repr

/-- The conditions `cc` (R77, R170). -/
inductive Cond where
  | nz | z | nc | c
deriving DecidableEq, Repr

/-- The eight accumulator operations of R78. -/
inductive AluOp where
  | add | adc | sub | sbc | and | xor | or | cp
deriving DecidableEq, Repr

/-- The rotate, shift and swap kinds of R141, in the order of R79. -/
inductive RotKind where
  | rlc | rrc | rl | rr | sla | sra | swap | srl
deriving DecidableEq, Repr

/-- The source operand of an accumulator operation (R100): a register, the byte at `HL`, or an immediate byte. -/
inductive Src8 where
  | reg (r : Reg8)
  | ind
  | imm (d8 : Byte)
deriving DecidableEq, Repr

/-- The target of a secondary instruction (R140, R160), and of `INC`/`DEC` (R111): a register or the byte at `HL`. -/
inductive Target8 where
  | reg (r : Reg8)
  | ind
deriving DecidableEq, Repr

/-- One constructor per row of spec/opcode_table.json. Immediates are the bytes fetched: `d8` and `a8` unsigned,
`e8` the raw byte of a signed displacement, `d16` and `a16` assembled low byte first (R72, R73).
The rows stand in three groups, each in the table's order: the primary rows with an immediate operand, the secondary
rows, the primary rows of one byte (Lean's compiler bounds the index of a constructor that carries data). -/
inductive Instr where
  | ld_BC_d16 (d16 : Word)  -- 0x01 `LD BC,d16`
  | ld_B_d8 (d8 : Byte)  -- 0x06 `LD B,d8`
  | ld_ma16_SP (a16 : Word)  -- 0x08 `LD (a16),SP`
  | ld_C_d8 (d8 : Byte)  -- 0x0E `LD C,d8`
  | ld_DE_d16 (d16 : Word)  -- 0x11 `LD DE,d16`
  | ld_D_d8 (d8 : Byte)  -- 0x16 `LD D,d8`
  | jr_e8 (e8 : Byte)  -- 0x18 `JR e8`
  | ld_E_d8 (d8 : Byte)  -- 0x1E `LD E,d8`
  | jr_NZ_e8 (e8 : Byte)  -- 0x20 `JR NZ,e8`
  | ld_HL_d16 (d16 : Word)  -- 0x21 `LD HL,d16`
  | ld_H_d8 (d8 : Byte)  -- 0x26 `LD H,d8`
  | jr_Z_e8 (e8 : Byte)  -- 0x28 `JR Z,e8`
  | ld_L_d8 (d8 : Byte)  -- 0x2E `LD L,d8`
  | jr_NC_e8 (e8 : Byte)  -- 0x30 `JR NC,e8`
  | ld_SP_d16 (d16 : Word)  -- 0x31 `LD SP,d16`
  | ld_mHL_d8 (d8 : Byte)  -- 0x36 `LD (HL),d8`
  | jr_C_e8 (e8 : Byte)  -- 0x38 `JR C,e8`
  | ld_A_d8 (d8 : Byte)  -- 0x3E `LD A,d8`
  | jp_NZ_a16 (a16 : Word)  -- 0xC2 `JP NZ,a16`
  | jp_a16 (a16 : Word)  -- 0xC3 `JP a16`
  | call_NZ_a16 (a16 : Word)  -- 0xC4 `CALL NZ,a16`
  | add_A_d8 (d8 : Byte)  -- 0xC6 `ADD A,d8`
  | jp_Z_a16 (a16 : Word)  -- 0xCA `JP Z,a16`
  | call_Z_a16 (a16 : Word)  -- 0xCC `CALL Z,a16`
  | call_a16 (a16 : Word)  -- 0xCD `CALL a16`
  | adc_A_d8 (d8 : Byte)  -- 0xCE `ADC A,d8`
  | jp_NC_a16 (a16 : Word)  -- 0xD2 `JP NC,a16`
  | call_NC_a16 (a16 : Word)  -- 0xD4 `CALL NC,a16`
  | sub_d8 (d8 : Byte)  -- 0xD6 `SUB d8`
  | jp_C_a16 (a16 : Word)  -- 0xDA `JP C,a16`
  | call_C_a16 (a16 : Word)  -- 0xDC `CALL C,a16`
  | sbc_A_d8 (d8 : Byte)  -- 0xDE `SBC A,d8`
  | ldh_ma8_A (a8 : Byte)  -- 0xE0 `LDH (a8),A`
  | and_d8 (d8 : Byte)  -- 0xE6 `AND d8`
  | add_SP_e8 (e8 : Byte)  -- 0xE8 `ADD SP,e8`
  | ld_ma16_A (a16 : Word)  -- 0xEA `LD (a16),A`
  | xor_d8 (d8 : Byte)  -- 0xEE `XOR d8`
  | ldh_A_ma8 (a8 : Byte)  -- 0xF0 `LDH A,(a8)`
  | or_d8 (d8 : Byte)  -- 0xF6 `OR d8`
  | ld_HL_SPe8 (e8 : Byte)  -- 0xF8 `LD HL,SP+e8`
  | ld_A_ma16 (a16 : Word)  -- 0xFA `LD A,(a16)`
  | cp_d8 (d8 : Byte)  -- 0xFE `CP d8`
  | rlc_r (r : Reg8)  -- 0xCB 0x00 `RLC r`
  | rlc_mHL  -- 0xCB 0x06 `RLC (HL)`
  | rrc_r (r : Reg8)  -- 0xCB 0x08 `RRC r`
  | rrc_mHL  -- 0xCB 0x0E `RRC (HL)`
  | rl_r (r : Reg8)  -- 0xCB 0x10 `RL r`
  | rl_mHL  -- 0xCB 0x16 `RL (HL)`
  | rr_r (r : Reg8)  -- 0xCB 0x18 `RR r`
  | rr_mHL  -- 0xCB 0x1E `RR (HL)`
  | sla_r (r : Reg8)  -- 0xCB 0x20 `SLA r`
  | sla_mHL  -- 0xCB 0x26 `SLA (HL)`
  | sra_r (r : Reg8)  -- 0xCB 0x28 `SRA r`
  | sra_mHL  -- 0xCB 0x2E `SRA (HL)`
  | swap_r (r : Reg8)  -- 0xCB 0x30 `SWAP r`
  | swap_mHL  -- 0xCB 0x36 `SWAP (HL)`
  | srl_r (r : Reg8)  -- 0xCB 0x38 `SRL r`
  | srl_mHL  -- 0xCB 0x3E `SRL (HL)`
  | bit_b_r (b : BitVec 3) (r : Reg8)  -- 0xCB 0x40 `BIT b,r`
  | bit_b_mHL (b : BitVec 3)  -- 0xCB 0x46 `BIT b,(HL)`
  | res_b_r (b : BitVec 3) (r : Reg8)  -- 0xCB 0x80 `RES b,r`
  | res_b_mHL (b : BitVec 3)  -- 0xCB 0x86 `RES b,(HL)`
  | set_b_r (b : BitVec 3) (r : Reg8)  -- 0xCB 0xC0 `SET b,r`
  | set_b_mHL (b : BitVec 3)  -- 0xCB 0xC6 `SET b,(HL)`
  | nop  -- 0x00 `NOP`
  | ld_mBC_A  -- 0x02 `LD (BC),A`
  | inc_BC  -- 0x03 `INC BC`
  | inc_B  -- 0x04 `INC B`
  | dec_B  -- 0x05 `DEC B`
  | rlca  -- 0x07 `RLCA`
  | add_HL_BC  -- 0x09 `ADD HL,BC`
  | ld_A_mBC  -- 0x0A `LD A,(BC)`
  | dec_BC  -- 0x0B `DEC BC`
  | inc_C  -- 0x0C `INC C`
  | dec_C  -- 0x0D `DEC C`
  | rrca  -- 0x0F `RRCA`
  | stop  -- 0x10 `STOP`
  | ld_mDE_A  -- 0x12 `LD (DE),A`
  | inc_DE  -- 0x13 `INC DE`
  | inc_D  -- 0x14 `INC D`
  | dec_D  -- 0x15 `DEC D`
  | rla  -- 0x17 `RLA`
  | add_HL_DE  -- 0x19 `ADD HL,DE`
  | ld_A_mDE  -- 0x1A `LD A,(DE)`
  | dec_DE  -- 0x1B `DEC DE`
  | inc_E  -- 0x1C `INC E`
  | dec_E  -- 0x1D `DEC E`
  | rra  -- 0x1F `RRA`
  | ld_mHLi_A  -- 0x22 `LD (HL+),A`
  | inc_HL  -- 0x23 `INC HL`
  | inc_H  -- 0x24 `INC H`
  | dec_H  -- 0x25 `DEC H`
  | daa  -- 0x27 `DAA`
  | add_HL_HL  -- 0x29 `ADD HL,HL`
  | ld_A_mHLi  -- 0x2A `LD A,(HL+)`
  | dec_HL  -- 0x2B `DEC HL`
  | inc_L  -- 0x2C `INC L`
  | dec_L  -- 0x2D `DEC L`
  | cpl  -- 0x2F `CPL`
  | ld_mHLd_A  -- 0x32 `LD (HL-),A`
  | inc_SP  -- 0x33 `INC SP`
  | inc_mHL  -- 0x34 `INC (HL)`
  | dec_mHL  -- 0x35 `DEC (HL)`
  | scf  -- 0x37 `SCF`
  | add_HL_SP  -- 0x39 `ADD HL,SP`
  | ld_A_mHLd  -- 0x3A `LD A,(HL-)`
  | dec_SP  -- 0x3B `DEC SP`
  | inc_A  -- 0x3C `INC A`
  | dec_A  -- 0x3D `DEC A`
  | ccf  -- 0x3F `CCF`
  | ld_B_B  -- 0x40 `LD B,B`
  | ld_B_C  -- 0x41 `LD B,C`
  | ld_B_D  -- 0x42 `LD B,D`
  | ld_B_E  -- 0x43 `LD B,E`
  | ld_B_H  -- 0x44 `LD B,H`
  | ld_B_L  -- 0x45 `LD B,L`
  | ld_B_mHL  -- 0x46 `LD B,(HL)`
  | ld_B_A  -- 0x47 `LD B,A`
  | ld_C_B  -- 0x48 `LD C,B`
  | ld_C_C  -- 0x49 `LD C,C`
  | ld_C_D  -- 0x4A `LD C,D`
  | ld_C_E  -- 0x4B `LD C,E`
  | ld_C_H  -- 0x4C `LD C,H`
  | ld_C_L  -- 0x4D `LD C,L`
  | ld_C_mHL  -- 0x4E `LD C,(HL)`
  | ld_C_A  -- 0x4F `LD C,A`
  | ld_D_B  -- 0x50 `LD D,B`
  | ld_D_C  -- 0x51 `LD D,C`
  | ld_D_D  -- 0x52 `LD D,D`
  | ld_D_E  -- 0x53 `LD D,E`
  | ld_D_H  -- 0x54 `LD D,H`
  | ld_D_L  -- 0x55 `LD D,L`
  | ld_D_mHL  -- 0x56 `LD D,(HL)`
  | ld_D_A  -- 0x57 `LD D,A`
  | ld_E_B  -- 0x58 `LD E,B`
  | ld_E_C  -- 0x59 `LD E,C`
  | ld_E_D  -- 0x5A `LD E,D`
  | ld_E_E  -- 0x5B `LD E,E`
  | ld_E_H  -- 0x5C `LD E,H`
  | ld_E_L  -- 0x5D `LD E,L`
  | ld_E_mHL  -- 0x5E `LD E,(HL)`
  | ld_E_A  -- 0x5F `LD E,A`
  | ld_H_B  -- 0x60 `LD H,B`
  | ld_H_C  -- 0x61 `LD H,C`
  | ld_H_D  -- 0x62 `LD H,D`
  | ld_H_E  -- 0x63 `LD H,E`
  | ld_H_H  -- 0x64 `LD H,H`
  | ld_H_L  -- 0x65 `LD H,L`
  | ld_H_mHL  -- 0x66 `LD H,(HL)`
  | ld_H_A  -- 0x67 `LD H,A`
  | ld_L_B  -- 0x68 `LD L,B`
  | ld_L_C  -- 0x69 `LD L,C`
  | ld_L_D  -- 0x6A `LD L,D`
  | ld_L_E  -- 0x6B `LD L,E`
  | ld_L_H  -- 0x6C `LD L,H`
  | ld_L_L  -- 0x6D `LD L,L`
  | ld_L_mHL  -- 0x6E `LD L,(HL)`
  | ld_L_A  -- 0x6F `LD L,A`
  | ld_mHL_B  -- 0x70 `LD (HL),B`
  | ld_mHL_C  -- 0x71 `LD (HL),C`
  | ld_mHL_D  -- 0x72 `LD (HL),D`
  | ld_mHL_E  -- 0x73 `LD (HL),E`
  | ld_mHL_H  -- 0x74 `LD (HL),H`
  | ld_mHL_L  -- 0x75 `LD (HL),L`
  | halt  -- 0x76 `HALT`
  | ld_mHL_A  -- 0x77 `LD (HL),A`
  | ld_A_B  -- 0x78 `LD A,B`
  | ld_A_C  -- 0x79 `LD A,C`
  | ld_A_D  -- 0x7A `LD A,D`
  | ld_A_E  -- 0x7B `LD A,E`
  | ld_A_H  -- 0x7C `LD A,H`
  | ld_A_L  -- 0x7D `LD A,L`
  | ld_A_mHL  -- 0x7E `LD A,(HL)`
  | ld_A_A  -- 0x7F `LD A,A`
  | add_A_B  -- 0x80 `ADD A,B`
  | add_A_C  -- 0x81 `ADD A,C`
  | add_A_D  -- 0x82 `ADD A,D`
  | add_A_E  -- 0x83 `ADD A,E`
  | add_A_H  -- 0x84 `ADD A,H`
  | add_A_L  -- 0x85 `ADD A,L`
  | add_A_mHL  -- 0x86 `ADD A,(HL)`
  | add_A_A  -- 0x87 `ADD A,A`
  | adc_A_B  -- 0x88 `ADC A,B`
  | adc_A_C  -- 0x89 `ADC A,C`
  | adc_A_D  -- 0x8A `ADC A,D`
  | adc_A_E  -- 0x8B `ADC A,E`
  | adc_A_H  -- 0x8C `ADC A,H`
  | adc_A_L  -- 0x8D `ADC A,L`
  | adc_A_mHL  -- 0x8E `ADC A,(HL)`
  | adc_A_A  -- 0x8F `ADC A,A`
  | sub_B  -- 0x90 `SUB B`
  | sub_C  -- 0x91 `SUB C`
  | sub_D  -- 0x92 `SUB D`
  | sub_E  -- 0x93 `SUB E`
  | sub_H  -- 0x94 `SUB H`
  | sub_L  -- 0x95 `SUB L`
  | sub_mHL  -- 0x96 `SUB (HL)`
  | sub_A  -- 0x97 `SUB A`
  | sbc_A_B  -- 0x98 `SBC A,B`
  | sbc_A_C  -- 0x99 `SBC A,C`
  | sbc_A_D  -- 0x9A `SBC A,D`
  | sbc_A_E  -- 0x9B `SBC A,E`
  | sbc_A_H  -- 0x9C `SBC A,H`
  | sbc_A_L  -- 0x9D `SBC A,L`
  | sbc_A_mHL  -- 0x9E `SBC A,(HL)`
  | sbc_A_A  -- 0x9F `SBC A,A`
  | and_B  -- 0xA0 `AND B`
  | and_C  -- 0xA1 `AND C`
  | and_D  -- 0xA2 `AND D`
  | and_E  -- 0xA3 `AND E`
  | and_H  -- 0xA4 `AND H`
  | and_L  -- 0xA5 `AND L`
  | and_mHL  -- 0xA6 `AND (HL)`
  | and_A  -- 0xA7 `AND A`
  | xor_B  -- 0xA8 `XOR B`
  | xor_C  -- 0xA9 `XOR C`
  | xor_D  -- 0xAA `XOR D`
  | xor_E  -- 0xAB `XOR E`
  | xor_H  -- 0xAC `XOR H`
  | xor_L  -- 0xAD `XOR L`
  | xor_mHL  -- 0xAE `XOR (HL)`
  | xor_A  -- 0xAF `XOR A`
  | or_B  -- 0xB0 `OR B`
  | or_C  -- 0xB1 `OR C`
  | or_D  -- 0xB2 `OR D`
  | or_E  -- 0xB3 `OR E`
  | or_H  -- 0xB4 `OR H`
  | or_L  -- 0xB5 `OR L`
  | or_mHL  -- 0xB6 `OR (HL)`
  | or_A  -- 0xB7 `OR A`
  | cp_B  -- 0xB8 `CP B`
  | cp_C  -- 0xB9 `CP C`
  | cp_D  -- 0xBA `CP D`
  | cp_E  -- 0xBB `CP E`
  | cp_H  -- 0xBC `CP H`
  | cp_L  -- 0xBD `CP L`
  | cp_mHL  -- 0xBE `CP (HL)`
  | cp_A  -- 0xBF `CP A`
  | ret_NZ  -- 0xC0 `RET NZ`
  | pop_BC  -- 0xC1 `POP BC`
  | push_BC  -- 0xC5 `PUSH BC`
  | rst_00  -- 0xC7 `RST 0x00`
  | ret_Z  -- 0xC8 `RET Z`
  | ret  -- 0xC9 `RET`
  | prefix_CB  -- 0xCB `PREFIX CB`
  | rst_08  -- 0xCF `RST 0x08`
  | ret_NC  -- 0xD0 `RET NC`
  | pop_DE  -- 0xD1 `POP DE`
  | illegal_D3  -- 0xD3 `ILLEGAL_D3`
  | push_DE  -- 0xD5 `PUSH DE`
  | rst_10  -- 0xD7 `RST 0x10`
  | ret_C  -- 0xD8 `RET C`
  | reti  -- 0xD9 `RETI`
  | illegal_DB  -- 0xDB `ILLEGAL_DB`
  | illegal_DD  -- 0xDD `ILLEGAL_DD`
  | rst_18  -- 0xDF `RST 0x18`
  | pop_HL  -- 0xE1 `POP HL`
  | ld_mC_A  -- 0xE2 `LD (C),A`
  | illegal_E3  -- 0xE3 `ILLEGAL_E3`
  | illegal_E4  -- 0xE4 `ILLEGAL_E4`
  | push_HL  -- 0xE5 `PUSH HL`
  | rst_20  -- 0xE7 `RST 0x20`
  | jp_HL  -- 0xE9 `JP HL`
  | illegal_EB  -- 0xEB `ILLEGAL_EB`
  | illegal_EC  -- 0xEC `ILLEGAL_EC`
  | illegal_ED  -- 0xED `ILLEGAL_ED`
  | rst_28  -- 0xEF `RST 0x28`
  | pop_AF  -- 0xF1 `POP AF`
  | ld_A_mC  -- 0xF2 `LD A,(C)`
  | di  -- 0xF3 `DI`
  | illegal_F4  -- 0xF4 `ILLEGAL_F4`
  | push_AF  -- 0xF5 `PUSH AF`
  | rst_30  -- 0xF7 `RST 0x30`
  | ld_SP_HL  -- 0xF9 `LD SP,HL`
  | ei  -- 0xFB `EI`
  | illegal_FC  -- 0xFC `ILLEGAL_FC`
  | illegal_FD  -- 0xFD `ILLEGAL_FD`
  | rst_38  -- 0xFF `RST 0x38`
deriving DecidableEq, Repr

/-! Builders: the rows of one rule, by their operand fields. -/

/-- `LD r,r'` (R191). -/
def Instr.ldReg : Reg8 → Reg8 → Instr
  | .b, .b => .ld_B_B
  | .b, .c => .ld_B_C
  | .b, .d => .ld_B_D
  | .b, .e => .ld_B_E
  | .b, .h => .ld_B_H
  | .b, .l => .ld_B_L
  | .b, .a => .ld_B_A
  | .c, .b => .ld_C_B
  | .c, .c => .ld_C_C
  | .c, .d => .ld_C_D
  | .c, .e => .ld_C_E
  | .c, .h => .ld_C_H
  | .c, .l => .ld_C_L
  | .c, .a => .ld_C_A
  | .d, .b => .ld_D_B
  | .d, .c => .ld_D_C
  | .d, .d => .ld_D_D
  | .d, .e => .ld_D_E
  | .d, .h => .ld_D_H
  | .d, .l => .ld_D_L
  | .d, .a => .ld_D_A
  | .e, .b => .ld_E_B
  | .e, .c => .ld_E_C
  | .e, .d => .ld_E_D
  | .e, .e => .ld_E_E
  | .e, .h => .ld_E_H
  | .e, .l => .ld_E_L
  | .e, .a => .ld_E_A
  | .h, .b => .ld_H_B
  | .h, .c => .ld_H_C
  | .h, .d => .ld_H_D
  | .h, .e => .ld_H_E
  | .h, .h => .ld_H_H
  | .h, .l => .ld_H_L
  | .h, .a => .ld_H_A
  | .l, .b => .ld_L_B
  | .l, .c => .ld_L_C
  | .l, .d => .ld_L_D
  | .l, .e => .ld_L_E
  | .l, .h => .ld_L_H
  | .l, .l => .ld_L_L
  | .l, .a => .ld_L_A
  | .a, .b => .ld_A_B
  | .a, .c => .ld_A_C
  | .a, .d => .ld_A_D
  | .a, .e => .ld_A_E
  | .a, .h => .ld_A_H
  | .a, .l => .ld_A_L
  | .a, .a => .ld_A_A

/-- `LD r,d8` (R192). -/
def Instr.ldImm : Reg8 → Byte → Instr
  | .b, v => .ld_B_d8 v
  | .c, v => .ld_C_d8 v
  | .d, v => .ld_D_d8 v
  | .e, v => .ld_E_d8 v
  | .h, v => .ld_H_d8 v
  | .l, v => .ld_L_d8 v
  | .a, v => .ld_A_d8 v

/-- `LD r,(HL)` (R193). -/
def Instr.ldLoad : Reg8 → Instr
  | .b => .ld_B_mHL
  | .c => .ld_C_mHL
  | .d => .ld_D_mHL
  | .e => .ld_E_mHL
  | .h => .ld_H_mHL
  | .l => .ld_L_mHL
  | .a => .ld_A_mHL

/-- `LD (HL),r` (R194). -/
def Instr.ldStore : Reg8 → Instr
  | .b => .ld_mHL_B
  | .c => .ld_mHL_C
  | .d => .ld_mHL_D
  | .e => .ld_mHL_E
  | .h => .ld_mHL_H
  | .l => .ld_mHL_L
  | .a => .ld_mHL_A

/-- The accumulator operation `op` on source `s` (R78, R100). -/
def Instr.alu : AluOp → Src8 → Instr
  | .add, .reg .b => .add_A_B
  | .add, .reg .c => .add_A_C
  | .add, .reg .d => .add_A_D
  | .add, .reg .e => .add_A_E
  | .add, .reg .h => .add_A_H
  | .add, .reg .l => .add_A_L
  | .add, .reg .a => .add_A_A
  | .add, .ind => .add_A_mHL
  | .add, .imm v => .add_A_d8 v
  | .adc, .reg .b => .adc_A_B
  | .adc, .reg .c => .adc_A_C
  | .adc, .reg .d => .adc_A_D
  | .adc, .reg .e => .adc_A_E
  | .adc, .reg .h => .adc_A_H
  | .adc, .reg .l => .adc_A_L
  | .adc, .reg .a => .adc_A_A
  | .adc, .ind => .adc_A_mHL
  | .adc, .imm v => .adc_A_d8 v
  | .sub, .reg .b => .sub_B
  | .sub, .reg .c => .sub_C
  | .sub, .reg .d => .sub_D
  | .sub, .reg .e => .sub_E
  | .sub, .reg .h => .sub_H
  | .sub, .reg .l => .sub_L
  | .sub, .reg .a => .sub_A
  | .sub, .ind => .sub_mHL
  | .sub, .imm v => .sub_d8 v
  | .sbc, .reg .b => .sbc_A_B
  | .sbc, .reg .c => .sbc_A_C
  | .sbc, .reg .d => .sbc_A_D
  | .sbc, .reg .e => .sbc_A_E
  | .sbc, .reg .h => .sbc_A_H
  | .sbc, .reg .l => .sbc_A_L
  | .sbc, .reg .a => .sbc_A_A
  | .sbc, .ind => .sbc_A_mHL
  | .sbc, .imm v => .sbc_A_d8 v
  | .and, .reg .b => .and_B
  | .and, .reg .c => .and_C
  | .and, .reg .d => .and_D
  | .and, .reg .e => .and_E
  | .and, .reg .h => .and_H
  | .and, .reg .l => .and_L
  | .and, .reg .a => .and_A
  | .and, .ind => .and_mHL
  | .and, .imm v => .and_d8 v
  | .xor, .reg .b => .xor_B
  | .xor, .reg .c => .xor_C
  | .xor, .reg .d => .xor_D
  | .xor, .reg .e => .xor_E
  | .xor, .reg .h => .xor_H
  | .xor, .reg .l => .xor_L
  | .xor, .reg .a => .xor_A
  | .xor, .ind => .xor_mHL
  | .xor, .imm v => .xor_d8 v
  | .or, .reg .b => .or_B
  | .or, .reg .c => .or_C
  | .or, .reg .d => .or_D
  | .or, .reg .e => .or_E
  | .or, .reg .h => .or_H
  | .or, .reg .l => .or_L
  | .or, .reg .a => .or_A
  | .or, .ind => .or_mHL
  | .or, .imm v => .or_d8 v
  | .cp, .reg .b => .cp_B
  | .cp, .reg .c => .cp_C
  | .cp, .reg .d => .cp_D
  | .cp, .reg .e => .cp_E
  | .cp, .reg .h => .cp_H
  | .cp, .reg .l => .cp_L
  | .cp, .reg .a => .cp_A
  | .cp, .ind => .cp_mHL
  | .cp, .imm v => .cp_d8 v

/-- `INC r` and `INC (HL)` (R111). -/
def Instr.inc8 : Target8 → Instr
  | .reg .b => .inc_B
  | .reg .c => .inc_C
  | .reg .d => .inc_D
  | .reg .e => .inc_E
  | .reg .h => .inc_H
  | .reg .l => .inc_L
  | .reg .a => .inc_A
  | .ind => .inc_mHL

/-- `DEC r` and `DEC (HL)` (R112). -/
def Instr.dec8 : Target8 → Instr
  | .reg .b => .dec_B
  | .reg .c => .dec_C
  | .reg .d => .dec_D
  | .reg .e => .dec_E
  | .reg .h => .dec_H
  | .reg .l => .dec_L
  | .reg .a => .dec_A
  | .ind => .dec_mHL

/-- `INC rr` (R132). -/
def Instr.inc16 : Reg16 → Instr
  | .bc => .inc_BC
  | .de => .inc_DE
  | .hl => .inc_HL
  | .sp => .inc_SP

/-- `DEC rr` (R133). -/
def Instr.dec16 : Reg16 → Instr
  | .bc => .dec_BC
  | .de => .dec_DE
  | .hl => .dec_HL
  | .sp => .dec_SP

/-- `ADD HL,rr` (R131). -/
def Instr.addHl : Reg16 → Instr
  | .bc => .add_HL_BC
  | .de => .add_HL_DE
  | .hl => .add_HL_HL
  | .sp => .add_HL_SP

/-- `LD rr,d16` (R208). -/
def Instr.ldImm16 : Reg16 → Word → Instr
  | .bc, v => .ld_BC_d16 v
  | .de, v => .ld_DE_d16 v
  | .hl, v => .ld_HL_d16 v
  | .sp, v => .ld_SP_d16 v

/-- `PUSH qq` (R211, R212). -/
def Instr.push : StackReg → Instr
  | .bc => .push_BC
  | .de => .push_DE
  | .hl => .push_HL
  | .af => .push_AF

/-- `POP qq` (R213, R214). -/
def Instr.pop : StackReg → Instr
  | .bc => .pop_BC
  | .de => .pop_DE
  | .hl => .pop_HL
  | .af => .pop_AF

/-- `JR cc,e8` (R176). -/
def Instr.jrIf : Cond → Byte → Instr
  | .nz, v => .jr_NZ_e8 v
  | .z, v => .jr_Z_e8 v
  | .nc, v => .jr_NC_e8 v
  | .c, v => .jr_C_e8 v

/-- `JP cc,a16` (R173). -/
def Instr.jpIf : Cond → Word → Instr
  | .nz, v => .jp_NZ_a16 v
  | .z, v => .jp_Z_a16 v
  | .nc, v => .jp_NC_a16 v
  | .c, v => .jp_C_a16 v

/-- `CALL cc,a16` (R178). -/
def Instr.callIf : Cond → Word → Instr
  | .nz, v => .call_NZ_a16 v
  | .z, v => .call_Z_a16 v
  | .nc, v => .call_NC_a16 v
  | .c, v => .call_C_a16 v

/-- `RET cc` (R180). -/
def Instr.retIf : Cond → Instr
  | .nz => .ret_NZ
  | .z => .ret_Z
  | .nc => .ret_NC
  | .c => .ret_C

/-- `RST y*8` by the field `y` (R80, R182). -/
def Instr.rst : Fin 8 → Instr
  | 0 => .rst_00
  | 1 => .rst_08
  | 2 => .rst_10
  | 3 => .rst_18
  | 4 => .rst_20
  | 5 => .rst_28
  | 6 => .rst_30
  | 7 => .rst_38

/-- The secondary rotate, shift and swap forms (R146 to R153). -/
def Instr.rot : RotKind → Target8 → Instr
  | .rlc, .reg r => .rlc_r r
  | .rrc, .reg r => .rrc_r r
  | .rl, .reg r => .rl_r r
  | .rr, .reg r => .rr_r r
  | .sla, .reg r => .sla_r r
  | .sra, .reg r => .sra_r r
  | .swap, .reg r => .swap_r r
  | .srl, .reg r => .srl_r r
  | .rlc, .ind => .rlc_mHL
  | .rrc, .ind => .rrc_mHL
  | .rl, .ind => .rl_mHL
  | .rr, .ind => .rr_mHL
  | .sla, .ind => .sla_mHL
  | .sra, .ind => .sra_mHL
  | .swap, .ind => .swap_mHL
  | .srl, .ind => .srl_mHL

/-- `BIT b,t` (R161, R162). -/
def Instr.bit : BitVec 3 → Target8 → Instr
  | b, .reg r => .bit_b_r b r
  | b, .ind => .bit_b_mHL b

/-- `RES b,t` (R163, R164). -/
def Instr.res : BitVec 3 → Target8 → Instr
  | b, .reg r => .res_b_r b r
  | b, .ind => .res_b_mHL b

/-- `SET b,t` (R165, R166). -/
def Instr.set : BitVec 3 → Target8 → Instr
  | b, .reg r => .set_b_r b r
  | b, .ind => .set_b_mHL b

/-- The illegal primary code points in the order of `ILLEGAL_SET` (R83, R227). -/
def Instr.illegal : Fin 11 → Instr
  | 0 => .illegal_D3
  | 1 => .illegal_DB
  | 2 => .illegal_DD
  | 3 => .illegal_E3
  | 4 => .illegal_E4
  | 5 => .illegal_EB
  | 6 => .illegal_EC
  | 7 => .illegal_ED
  | 8 => .illegal_F4
  | 9 => .illegal_FC
  | 10 => .illegal_FD

end Sys2Proof
end

