-- ==== Sys2Proof/WellFormed.lean ====
section
/-! DEFINITION. Which instructions of the syntax are whole machine instructions. The operand types already confine
every field to the values its encoding has (R85: no reserved field, no don't-care bit). One row of the table is no
instruction of its own: the escape 0xCB (R87, R226). -/

namespace Sys2Proof

/-- Well-formedness: the escape alone is not an instruction ("It is never run as an instruction of its own", R226);
every other row is. -/
def Instr.wf : Instr → Bool
  | .prefix_CB => false
  | _ => true

end Sys2Proof
end

