-- ==== Sys2Proof/Decode.lean ====
section
/-! DEFINITION. Decoding (R70 to R87, R96) and encoding. The primary table is the grid of R81, eight code points a
line; the secondary table is the selector layout of R79. Decoding is total: every first byte, and every selector
after 0xCB, has one meaning; the only rejected input is one too short to hold its instruction. -/

namespace Sys2Proof

/-- The operand an `r` field selects (R74): code 6 is the byte at `HL`. -/
def targetOfCode (r : BitVec 3) : Target8 :=
  pick8 r (.reg .b) (.reg .c) (.reg .d) (.reg .e) (.reg .h) (.reg .l) .ind (.reg .a)

/-- The rotate, shift or swap kind of `op2[5:3]` (R79). -/
def rotOfCode (k : BitVec 3) : RotKind := pick8 k .rlc .rrc .rl .rr .sla .sra .swap .srl

/-- The instruction of the secondary table at selector `op2` (R79, R82). -/
def secondaryTable (op2 : Byte) : Instr :=
  pick4 (fieldX op2)
    (Instr.rot (rotOfCode (fieldY op2)) (targetOfCode (fieldZ op2)))
    (Instr.bit (fieldY op2) (targetOfCode (fieldZ op2)))
    (Instr.res (fieldY op2) (targetOfCode (fieldZ op2)))
    (Instr.set (fieldY op2) (targetOfCode (fieldZ op2)))

/-- Primary code points 0x00 to 0x3F, by the fields `y` and `z` (R81). -/
def quadrant0 (y z : BitVec 3) (b2 b3 : Byte) : Instr :=
  pick8 y
    (pick8 z .nop (.ld_BC_d16 (word b3 b2)) .ld_mBC_A .inc_BC .inc_B .dec_B (.ld_B_d8 b2) .rlca)  -- 0x00
    (pick8 z (.ld_ma16_SP (word b3 b2)) .add_HL_BC .ld_A_mBC .dec_BC .inc_C .dec_C (.ld_C_d8 b2) .rrca)  -- 0x08
    (pick8 z .stop (.ld_DE_d16 (word b3 b2)) .ld_mDE_A .inc_DE .inc_D .dec_D (.ld_D_d8 b2) .rla)  -- 0x10
    (pick8 z (.jr_e8 b2) .add_HL_DE .ld_A_mDE .dec_DE .inc_E .dec_E (.ld_E_d8 b2) .rra)  -- 0x18
    (pick8 z (.jr_NZ_e8 b2) (.ld_HL_d16 (word b3 b2)) .ld_mHLi_A .inc_HL .inc_H .dec_H (.ld_H_d8 b2) .daa)  -- 0x20
    (pick8 z (.jr_Z_e8 b2) .add_HL_HL .ld_A_mHLi .dec_HL .inc_L .dec_L (.ld_L_d8 b2) .cpl)  -- 0x28
    (pick8 z (.jr_NC_e8 b2) (.ld_SP_d16 (word b3 b2)) .ld_mHLd_A .inc_SP .inc_mHL .dec_mHL (.ld_mHL_d8 b2) .scf)  -- 0x30
    (pick8 z (.jr_C_e8 b2) .add_HL_SP .ld_A_mHLd .dec_SP .inc_A .dec_A (.ld_A_d8 b2) .ccf)  -- 0x38

/-- Primary code points 0x40 to 0x7F, by the fields `y` and `z` (R81). -/
def quadrant1 (y z : BitVec 3) : Instr :=
  pick8 y
    (pick8 z .ld_B_B .ld_B_C .ld_B_D .ld_B_E .ld_B_H .ld_B_L .ld_B_mHL .ld_B_A)  -- 0x40
    (pick8 z .ld_C_B .ld_C_C .ld_C_D .ld_C_E .ld_C_H .ld_C_L .ld_C_mHL .ld_C_A)  -- 0x48
    (pick8 z .ld_D_B .ld_D_C .ld_D_D .ld_D_E .ld_D_H .ld_D_L .ld_D_mHL .ld_D_A)  -- 0x50
    (pick8 z .ld_E_B .ld_E_C .ld_E_D .ld_E_E .ld_E_H .ld_E_L .ld_E_mHL .ld_E_A)  -- 0x58
    (pick8 z .ld_H_B .ld_H_C .ld_H_D .ld_H_E .ld_H_H .ld_H_L .ld_H_mHL .ld_H_A)  -- 0x60
    (pick8 z .ld_L_B .ld_L_C .ld_L_D .ld_L_E .ld_L_H .ld_L_L .ld_L_mHL .ld_L_A)  -- 0x68
    (pick8 z .ld_mHL_B .ld_mHL_C .ld_mHL_D .ld_mHL_E .ld_mHL_H .ld_mHL_L .halt .ld_mHL_A)  -- 0x70
    (pick8 z .ld_A_B .ld_A_C .ld_A_D .ld_A_E .ld_A_H .ld_A_L .ld_A_mHL .ld_A_A)  -- 0x78

/-- Primary code points 0x80 to 0xBF, by the fields `y` and `z` (R81). -/
def quadrant2 (y z : BitVec 3) : Instr :=
  pick8 y
    (pick8 z .add_A_B .add_A_C .add_A_D .add_A_E .add_A_H .add_A_L .add_A_mHL .add_A_A)  -- 0x80
    (pick8 z .adc_A_B .adc_A_C .adc_A_D .adc_A_E .adc_A_H .adc_A_L .adc_A_mHL .adc_A_A)  -- 0x88
    (pick8 z .sub_B .sub_C .sub_D .sub_E .sub_H .sub_L .sub_mHL .sub_A)  -- 0x90
    (pick8 z .sbc_A_B .sbc_A_C .sbc_A_D .sbc_A_E .sbc_A_H .sbc_A_L .sbc_A_mHL .sbc_A_A)  -- 0x98
    (pick8 z .and_B .and_C .and_D .and_E .and_H .and_L .and_mHL .and_A)  -- 0xA0
    (pick8 z .xor_B .xor_C .xor_D .xor_E .xor_H .xor_L .xor_mHL .xor_A)  -- 0xA8
    (pick8 z .or_B .or_C .or_D .or_E .or_H .or_L .or_mHL .or_A)  -- 0xB0
    (pick8 z .cp_B .cp_C .cp_D .cp_E .cp_H .cp_L .cp_mHL .cp_A)  -- 0xB8

/-- Primary code points 0xC0 to 0xFF, by the fields `y` and `z` (R81). -/
def quadrant3 (y z : BitVec 3) (b2 b3 : Byte) : Instr :=
  pick8 y
    (pick8 z .ret_NZ .pop_BC (.jp_NZ_a16 (word b3 b2)) (.jp_a16 (word b3 b2)) (.call_NZ_a16 (word b3 b2)) .push_BC (.add_A_d8 b2) .rst_00)  -- 0xC0
    (pick8 z .ret_Z .ret (.jp_Z_a16 (word b3 b2)) .prefix_CB (.call_Z_a16 (word b3 b2)) (.call_a16 (word b3 b2)) (.adc_A_d8 b2) .rst_08)  -- 0xC8
    (pick8 z .ret_NC .pop_DE (.jp_NC_a16 (word b3 b2)) .illegal_D3 (.call_NC_a16 (word b3 b2)) .push_DE (.sub_d8 b2) .rst_10)  -- 0xD0
    (pick8 z .ret_C .reti (.jp_C_a16 (word b3 b2)) .illegal_DB (.call_C_a16 (word b3 b2)) .illegal_DD (.sbc_A_d8 b2) .rst_18)  -- 0xD8
    (pick8 z (.ldh_ma8_A b2) .pop_HL .ld_mC_A .illegal_E3 .illegal_E4 .push_HL (.and_d8 b2) .rst_20)  -- 0xE0
    (pick8 z (.add_SP_e8 b2) .jp_HL (.ld_ma16_A (word b3 b2)) .illegal_EB .illegal_EC .illegal_ED (.xor_d8 b2) .rst_28)  -- 0xE8
    (pick8 z (.ldh_A_ma8 b2) .pop_AF .ld_A_mC .di .illegal_F4 .push_AF (.or_d8 b2) .rst_30)  -- 0xF0
    (pick8 z (.ld_HL_SPe8 b2) .ld_SP_HL (.ld_A_ma16 (word b3 b2)) .ei .illegal_FC .illegal_FD (.cp_d8 b2) .rst_38)  -- 0xF8

/-- The primary table at `b1`, with the operand bytes `b2`, `b3` (R71, R72, R81). Entry 0xCB is the escape, which
the dispatch never runs as a handler (R87). -/
def primaryTable (b1 b2 b3 : Byte) : Instr :=
  pick4 (fieldX b1)
    (quadrant0 (fieldY b1) (fieldZ b1) b2 b3)
    (quadrant1 (fieldY b1) (fieldZ b1))
    (quadrant2 (fieldY b1) (fieldZ b1))
    (quadrant3 (fieldY b1) (fieldZ b1) b2 b3)

/-- The instruction whose bytes are `b1`, `b2`, `b3`; bytes past its length are not looked at. The escape indexes the
secondary table with the second byte (R87). -/
def decodeBytes (b1 b2 b3 : Byte) : Instr :=
  if b1 = 0xCB then secondaryTable b2 else primaryTable b1 b2 b3

/-- The length in bytes that the first byte fixes (R70, R71). -/
def instrLength (b1 : Byte) : Nat :=
  pick4 (fieldX b1)
    (pick8 (fieldY b1)
      (pick8 (fieldZ b1) 1 3 1 1 1 1 2 1)  -- 0x00
      (pick8 (fieldZ b1) 3 1 1 1 1 1 2 1)  -- 0x08
      (pick8 (fieldZ b1) 1 3 1 1 1 1 2 1)  -- 0x10
      (pick8 (fieldZ b1) 2 1 1 1 1 1 2 1)  -- 0x18
      (pick8 (fieldZ b1) 2 3 1 1 1 1 2 1)  -- 0x20
      (pick8 (fieldZ b1) 2 1 1 1 1 1 2 1)  -- 0x28
      (pick8 (fieldZ b1) 2 3 1 1 1 1 2 1)  -- 0x30
      (pick8 (fieldZ b1) 2 1 1 1 1 1 2 1)  -- 0x38
    )
    1
    1
    (pick8 (fieldY b1)
      (pick8 (fieldZ b1) 1 1 3 3 3 1 2 1)  -- 0xC0
      (pick8 (fieldZ b1) 1 1 3 2 3 3 2 1)  -- 0xC8
      (pick8 (fieldZ b1) 1 1 3 1 3 1 2 1)  -- 0xD0
      (pick8 (fieldZ b1) 1 1 3 1 3 1 2 1)  -- 0xD8
      (pick8 (fieldZ b1) 2 1 1 1 1 1 2 1)  -- 0xE0
      (pick8 (fieldZ b1) 2 1 3 1 1 1 2 1)  -- 0xE8
      (pick8 (fieldZ b1) 2 1 1 1 1 1 2 1)  -- 0xF0
      (pick8 (fieldZ b1) 2 1 3 1 1 1 2 1)  -- 0xF8
    )

/-- Why a byte string is rejected: it is empty, or shorter than the instruction its first byte begins. -/
inductive DecodeError where
  | empty
  | truncated (b1 : Byte) (needed : Nat)
deriving DecidableEq, Repr

/-- Decode the instruction at the head of a byte string, with the bytes after it. -/
def decode : List Byte → Except DecodeError (Instr × List Byte)
  | [] => .error .empty
  | b1 :: rest =>
    if rest.length + 1 < instrLength b1 then .error (.truncated b1 (instrLength b1))
    else .ok (decodeBytes b1 (rest.getD 0 0) (rest.getD 1 0), rest.drop (instrLength b1 - 1))

/-- `ILLEGAL_SET`: the primary code points with no hardware meaning (R83). -/
def illegalSet : List Byte := [0xD3, 0xDB, 0xDD, 0xE3, 0xE4, 0xEB, 0xEC, 0xED, 0xF4, 0xFC, 0xFD]

/-- `CB_IMPLEMENTED(op2)` (R84). -/
def Config.implements (cfg : Config) (op2 : Byte) : Bool := cfg.cbImplemented.getLsbD op2.toNat

/-- The three verdicts of the decoder (R96). -/
inductive Verdict where
  | implemented (i : Instr)
  | illegal (b1 : Byte)
  | unimplemented (op2 : Byte)
deriving DecidableEq, Repr

/-- The verdict on an instruction's bytes (R83, R84, R96). -/
def verdict (cfg : Config) (b1 b2 b3 : Byte) : Verdict :=
  if b1 = 0xCB then
    if cfg.implements b2 then .implemented (secondaryTable b2) else .unimplemented b2
  else if b1 ∈ illegalSet then .illegal b1
  else .implemented (primaryTable b1 b2 b3)

/-! The encoder, from the same tables. -/

/-- The code of an 8-bit register (R74). -/
def regCode : Reg8 → BitVec 3
  | .b => 0 | .c => 1 | .d => 2 | .e => 3 | .h => 4 | .l => 5 | .a => 7

/-- The code of a target operand (R74): the byte at `HL` is code 6. -/
def targetCode : Target8 → BitVec 3
  | .reg r => regCode r
  | .ind => 6

/-- The bytes of an instruction, in the order they stand in memory (R71, R72). -/
def encode : Instr → List Byte
  | .nop => [0x00]
  | .ld_BC_d16 d16 => [0x01, loByte d16, hiByte d16]
  | .ld_mBC_A => [0x02]
  | .inc_BC => [0x03]
  | .inc_B => [0x04]
  | .dec_B => [0x05]
  | .ld_B_d8 d8 => [0x06, d8]
  | .rlca => [0x07]
  | .ld_ma16_SP a16 => [0x08, loByte a16, hiByte a16]
  | .add_HL_BC => [0x09]
  | .ld_A_mBC => [0x0A]
  | .dec_BC => [0x0B]
  | .inc_C => [0x0C]
  | .dec_C => [0x0D]
  | .ld_C_d8 d8 => [0x0E, d8]
  | .rrca => [0x0F]
  | .stop => [0x10]
  | .ld_DE_d16 d16 => [0x11, loByte d16, hiByte d16]
  | .ld_mDE_A => [0x12]
  | .inc_DE => [0x13]
  | .inc_D => [0x14]
  | .dec_D => [0x15]
  | .ld_D_d8 d8 => [0x16, d8]
  | .rla => [0x17]
  | .jr_e8 e8 => [0x18, e8]
  | .add_HL_DE => [0x19]
  | .ld_A_mDE => [0x1A]
  | .dec_DE => [0x1B]
  | .inc_E => [0x1C]
  | .dec_E => [0x1D]
  | .ld_E_d8 d8 => [0x1E, d8]
  | .rra => [0x1F]
  | .jr_NZ_e8 e8 => [0x20, e8]
  | .ld_HL_d16 d16 => [0x21, loByte d16, hiByte d16]
  | .ld_mHLi_A => [0x22]
  | .inc_HL => [0x23]
  | .inc_H => [0x24]
  | .dec_H => [0x25]
  | .ld_H_d8 d8 => [0x26, d8]
  | .daa => [0x27]
  | .jr_Z_e8 e8 => [0x28, e8]
  | .add_HL_HL => [0x29]
  | .ld_A_mHLi => [0x2A]
  | .dec_HL => [0x2B]
  | .inc_L => [0x2C]
  | .dec_L => [0x2D]
  | .ld_L_d8 d8 => [0x2E, d8]
  | .cpl => [0x2F]
  | .jr_NC_e8 e8 => [0x30, e8]
  | .ld_SP_d16 d16 => [0x31, loByte d16, hiByte d16]
  | .ld_mHLd_A => [0x32]
  | .inc_SP => [0x33]
  | .inc_mHL => [0x34]
  | .dec_mHL => [0x35]
  | .ld_mHL_d8 d8 => [0x36, d8]
  | .scf => [0x37]
  | .jr_C_e8 e8 => [0x38, e8]
  | .add_HL_SP => [0x39]
  | .ld_A_mHLd => [0x3A]
  | .dec_SP => [0x3B]
  | .inc_A => [0x3C]
  | .dec_A => [0x3D]
  | .ld_A_d8 d8 => [0x3E, d8]
  | .ccf => [0x3F]
  | .ld_B_B => [0x40]
  | .ld_B_C => [0x41]
  | .ld_B_D => [0x42]
  | .ld_B_E => [0x43]
  | .ld_B_H => [0x44]
  | .ld_B_L => [0x45]
  | .ld_B_mHL => [0x46]
  | .ld_B_A => [0x47]
  | .ld_C_B => [0x48]
  | .ld_C_C => [0x49]
  | .ld_C_D => [0x4A]
  | .ld_C_E => [0x4B]
  | .ld_C_H => [0x4C]
  | .ld_C_L => [0x4D]
  | .ld_C_mHL => [0x4E]
  | .ld_C_A => [0x4F]
  | .ld_D_B => [0x50]
  | .ld_D_C => [0x51]
  | .ld_D_D => [0x52]
  | .ld_D_E => [0x53]
  | .ld_D_H => [0x54]
  | .ld_D_L => [0x55]
  | .ld_D_mHL => [0x56]
  | .ld_D_A => [0x57]
  | .ld_E_B => [0x58]
  | .ld_E_C => [0x59]
  | .ld_E_D => [0x5A]
  | .ld_E_E => [0x5B]
  | .ld_E_H => [0x5C]
  | .ld_E_L => [0x5D]
  | .ld_E_mHL => [0x5E]
  | .ld_E_A => [0x5F]
  | .ld_H_B => [0x60]
  | .ld_H_C => [0x61]
  | .ld_H_D => [0x62]
  | .ld_H_E => [0x63]
  | .ld_H_H => [0x64]
  | .ld_H_L => [0x65]
  | .ld_H_mHL => [0x66]
  | .ld_H_A => [0x67]
  | .ld_L_B => [0x68]
  | .ld_L_C => [0x69]
  | .ld_L_D => [0x6A]
  | .ld_L_E => [0x6B]
  | .ld_L_H => [0x6C]
  | .ld_L_L => [0x6D]
  | .ld_L_mHL => [0x6E]
  | .ld_L_A => [0x6F]
  | .ld_mHL_B => [0x70]
  | .ld_mHL_C => [0x71]
  | .ld_mHL_D => [0x72]
  | .ld_mHL_E => [0x73]
  | .ld_mHL_H => [0x74]
  | .ld_mHL_L => [0x75]
  | .halt => [0x76]
  | .ld_mHL_A => [0x77]
  | .ld_A_B => [0x78]
  | .ld_A_C => [0x79]
  | .ld_A_D => [0x7A]
  | .ld_A_E => [0x7B]
  | .ld_A_H => [0x7C]
  | .ld_A_L => [0x7D]
  | .ld_A_mHL => [0x7E]
  | .ld_A_A => [0x7F]
  | .add_A_B => [0x80]
  | .add_A_C => [0x81]
  | .add_A_D => [0x82]
  | .add_A_E => [0x83]
  | .add_A_H => [0x84]
  | .add_A_L => [0x85]
  | .add_A_mHL => [0x86]
  | .add_A_A => [0x87]
  | .adc_A_B => [0x88]
  | .adc_A_C => [0x89]
  | .adc_A_D => [0x8A]
  | .adc_A_E => [0x8B]
  | .adc_A_H => [0x8C]
  | .adc_A_L => [0x8D]
  | .adc_A_mHL => [0x8E]
  | .adc_A_A => [0x8F]
  | .sub_B => [0x90]
  | .sub_C => [0x91]
  | .sub_D => [0x92]
  | .sub_E => [0x93]
  | .sub_H => [0x94]
  | .sub_L => [0x95]
  | .sub_mHL => [0x96]
  | .sub_A => [0x97]
  | .sbc_A_B => [0x98]
  | .sbc_A_C => [0x99]
  | .sbc_A_D => [0x9A]
  | .sbc_A_E => [0x9B]
  | .sbc_A_H => [0x9C]
  | .sbc_A_L => [0x9D]
  | .sbc_A_mHL => [0x9E]
  | .sbc_A_A => [0x9F]
  | .and_B => [0xA0]
  | .and_C => [0xA1]
  | .and_D => [0xA2]
  | .and_E => [0xA3]
  | .and_H => [0xA4]
  | .and_L => [0xA5]
  | .and_mHL => [0xA6]
  | .and_A => [0xA7]
  | .xor_B => [0xA8]
  | .xor_C => [0xA9]
  | .xor_D => [0xAA]
  | .xor_E => [0xAB]
  | .xor_H => [0xAC]
  | .xor_L => [0xAD]
  | .xor_mHL => [0xAE]
  | .xor_A => [0xAF]
  | .or_B => [0xB0]
  | .or_C => [0xB1]
  | .or_D => [0xB2]
  | .or_E => [0xB3]
  | .or_H => [0xB4]
  | .or_L => [0xB5]
  | .or_mHL => [0xB6]
  | .or_A => [0xB7]
  | .cp_B => [0xB8]
  | .cp_C => [0xB9]
  | .cp_D => [0xBA]
  | .cp_E => [0xBB]
  | .cp_H => [0xBC]
  | .cp_L => [0xBD]
  | .cp_mHL => [0xBE]
  | .cp_A => [0xBF]
  | .ret_NZ => [0xC0]
  | .pop_BC => [0xC1]
  | .jp_NZ_a16 a16 => [0xC2, loByte a16, hiByte a16]
  | .jp_a16 a16 => [0xC3, loByte a16, hiByte a16]
  | .call_NZ_a16 a16 => [0xC4, loByte a16, hiByte a16]
  | .push_BC => [0xC5]
  | .add_A_d8 d8 => [0xC6, d8]
  | .rst_00 => [0xC7]
  | .ret_Z => [0xC8]
  | .ret => [0xC9]
  | .jp_Z_a16 a16 => [0xCA, loByte a16, hiByte a16]
  | .prefix_CB => [0xCB]
  | .call_Z_a16 a16 => [0xCC, loByte a16, hiByte a16]
  | .call_a16 a16 => [0xCD, loByte a16, hiByte a16]
  | .adc_A_d8 d8 => [0xCE, d8]
  | .rst_08 => [0xCF]
  | .ret_NC => [0xD0]
  | .pop_DE => [0xD1]
  | .jp_NC_a16 a16 => [0xD2, loByte a16, hiByte a16]
  | .illegal_D3 => [0xD3]
  | .call_NC_a16 a16 => [0xD4, loByte a16, hiByte a16]
  | .push_DE => [0xD5]
  | .sub_d8 d8 => [0xD6, d8]
  | .rst_10 => [0xD7]
  | .ret_C => [0xD8]
  | .reti => [0xD9]
  | .jp_C_a16 a16 => [0xDA, loByte a16, hiByte a16]
  | .illegal_DB => [0xDB]
  | .call_C_a16 a16 => [0xDC, loByte a16, hiByte a16]
  | .illegal_DD => [0xDD]
  | .sbc_A_d8 d8 => [0xDE, d8]
  | .rst_18 => [0xDF]
  | .ldh_ma8_A a8 => [0xE0, a8]
  | .pop_HL => [0xE1]
  | .ld_mC_A => [0xE2]
  | .illegal_E3 => [0xE3]
  | .illegal_E4 => [0xE4]
  | .push_HL => [0xE5]
  | .and_d8 d8 => [0xE6, d8]
  | .rst_20 => [0xE7]
  | .add_SP_e8 e8 => [0xE8, e8]
  | .jp_HL => [0xE9]
  | .ld_ma16_A a16 => [0xEA, loByte a16, hiByte a16]
  | .illegal_EB => [0xEB]
  | .illegal_EC => [0xEC]
  | .illegal_ED => [0xED]
  | .xor_d8 d8 => [0xEE, d8]
  | .rst_28 => [0xEF]
  | .ldh_A_ma8 a8 => [0xF0, a8]
  | .pop_AF => [0xF1]
  | .ld_A_mC => [0xF2]
  | .di => [0xF3]
  | .illegal_F4 => [0xF4]
  | .push_AF => [0xF5]
  | .or_d8 d8 => [0xF6, d8]
  | .rst_30 => [0xF7]
  | .ld_HL_SPe8 e8 => [0xF8, e8]
  | .ld_SP_HL => [0xF9]
  | .ld_A_ma16 a16 => [0xFA, loByte a16, hiByte a16]
  | .ei => [0xFB]
  | .illegal_FC => [0xFC]
  | .illegal_FD => [0xFD]
  | .cp_d8 d8 => [0xFE, d8]
  | .rst_38 => [0xFF]
  | .rlc_r r => [0xCB, opByte 0 0 (regCode r)]
  | .rlc_mHL => [0xCB, opByte 0 0 6]
  | .rrc_r r => [0xCB, opByte 0 1 (regCode r)]
  | .rrc_mHL => [0xCB, opByte 0 1 6]
  | .rl_r r => [0xCB, opByte 0 2 (regCode r)]
  | .rl_mHL => [0xCB, opByte 0 2 6]
  | .rr_r r => [0xCB, opByte 0 3 (regCode r)]
  | .rr_mHL => [0xCB, opByte 0 3 6]
  | .sla_r r => [0xCB, opByte 0 4 (regCode r)]
  | .sla_mHL => [0xCB, opByte 0 4 6]
  | .sra_r r => [0xCB, opByte 0 5 (regCode r)]
  | .sra_mHL => [0xCB, opByte 0 5 6]
  | .swap_r r => [0xCB, opByte 0 6 (regCode r)]
  | .swap_mHL => [0xCB, opByte 0 6 6]
  | .srl_r r => [0xCB, opByte 0 7 (regCode r)]
  | .srl_mHL => [0xCB, opByte 0 7 6]
  | .bit_b_r b r => [0xCB, opByte 1 b (regCode r)]
  | .bit_b_mHL b => [0xCB, opByte 1 b 6]
  | .res_b_r b r => [0xCB, opByte 2 b (regCode r)]
  | .res_b_mHL b => [0xCB, opByte 2 b 6]
  | .set_b_r b r => [0xCB, opByte 3 b (regCode r)]
  | .set_b_mHL b => [0xCB, opByte 3 b 6]

/-- The three bytes an instruction of the opcode table occupies from its address, when the table's bits of it are
the low `nbits` bits of `w` and every bit the table does not give is 0. The table writes a secondary row as one
16-bit number with the escape 0xCB in bits 15..8 and the selector in bits 7..0; every other row has 8 bits, its
first byte. A number that is not of the first form has its first byte in bits 7..0 (log entry 15). -/
def tableBytes (nbits w : Nat) : Byte × Byte × Byte :=
  let v : BitVec 24 := (BitVec.ofNat nbits w).setWidth 24
  let b0 : Byte := v.extractLsb' 0 8
  let b1 : Byte := v.extractLsb' 8 8
  if nbits = 16 ∧ b1 = 0xCB then (0xCB, b0, 0) else (b0, b1, v.extractLsb' 16 8)

/-- The instruction the decoder reads from an instruction of the opcode table, given by the table's bits of it. -/
def decodeTableWord (nbits w : Nat) : Option Instr :=
  let (b1, b2, b3) := tableBytes nbits w
  match decode [b1, b2, b3] with
  | .ok (i, _) => some i
  | .error _ => none

end Sys2Proof
end

