-- ==== Sys2Proof/Machine/Costs.lean ====
section
/-! DEFINITION. The cost tables in T-cycles (R285 to R287, D32) and the opcode tables as they are exposed to tooling
(R93). No other rule reads a cost (R280). -/

namespace Sys2Proof.Machine

/-- `PRIMARY_COST[b1]` (R285), eight code points a line. An illegal code point has no cost (R227) and stands as 0: its
step returns before any cost is charged (R86). -/
def primaryCost (b1 : Byte) : Nat :=
  pick4 (fieldX b1)
    (pick8 (fieldY b1)
      (pick8 (fieldZ b1) 4 12 8 8 4 4 8 4)  -- 0x00
      (pick8 (fieldZ b1) 20 8 8 8 4 4 8 4)  -- 0x08
      (pick8 (fieldZ b1) 4 12 8 8 4 4 8 4)  -- 0x10
      (pick8 (fieldZ b1) 12 8 8 8 4 4 8 4)  -- 0x18
      (pick8 (fieldZ b1) 8 12 8 8 4 4 8 4)  -- 0x20
      (pick8 (fieldZ b1) 8 8 8 8 4 4 8 4)  -- 0x28
      (pick8 (fieldZ b1) 8 12 8 8 12 12 12 4)  -- 0x30
      (pick8 (fieldZ b1) 8 8 8 8 4 4 8 4))  -- 0x38
    (pick8 (fieldY b1)
      (pick8 (fieldZ b1) 4 4 4 4 4 4 8 4)  -- 0x40
      (pick8 (fieldZ b1) 4 4 4 4 4 4 8 4)  -- 0x48
      (pick8 (fieldZ b1) 4 4 4 4 4 4 8 4)  -- 0x50
      (pick8 (fieldZ b1) 4 4 4 4 4 4 8 4)  -- 0x58
      (pick8 (fieldZ b1) 4 4 4 4 4 4 8 4)  -- 0x60
      (pick8 (fieldZ b1) 4 4 4 4 4 4 8 4)  -- 0x68
      (pick8 (fieldZ b1) 8 8 8 8 8 8 4 8)  -- 0x70
      (pick8 (fieldZ b1) 4 4 4 4 4 4 8 4))  -- 0x78
    (pick8 (fieldY b1)
      (pick8 (fieldZ b1) 4 4 4 4 4 4 8 4)  -- 0x80
      (pick8 (fieldZ b1) 4 4 4 4 4 4 8 4)  -- 0x88
      (pick8 (fieldZ b1) 4 4 4 4 4 4 8 4)  -- 0x90
      (pick8 (fieldZ b1) 4 4 4 4 4 4 8 4)  -- 0x98
      (pick8 (fieldZ b1) 4 4 4 4 4 4 8 4)  -- 0xA0
      (pick8 (fieldZ b1) 4 4 4 4 4 4 8 4)  -- 0xA8
      (pick8 (fieldZ b1) 4 4 4 4 4 4 8 4)  -- 0xB0
      (pick8 (fieldZ b1) 4 4 4 4 4 4 8 4))  -- 0xB8
    (pick8 (fieldY b1)
      (pick8 (fieldZ b1) 8 12 12 16 12 16 8 16)  -- 0xC0
      (pick8 (fieldZ b1) 8 16 12 4 12 24 8 16)  -- 0xC8
      (pick8 (fieldZ b1) 8 12 12 0 12 16 8 16)  -- 0xD0
      (pick8 (fieldZ b1) 8 16 12 0 12 0 8 16)  -- 0xD8
      (pick8 (fieldZ b1) 12 12 8 0 0 16 8 16)  -- 0xE0
      (pick8 (fieldZ b1) 16 4 16 0 0 0 8 16)  -- 0xE8
      (pick8 (fieldZ b1) 12 12 8 4 0 16 8 16)  -- 0xF0
      (pick8 (fieldZ b1) 12 8 16 4 0 0 8 16))  -- 0xF8

/-- `SECONDARY_COST[op2]`, the cost of the whole two-byte instruction (R90, R286): a register form 8, `BIT b,(HL)` 12,
any other `(HL)` form 16. -/
def secondaryCost (op2 : Byte) : Nat :=
  match targetOfCode (fieldZ op2) with
  | .reg _ => 8
  | .ind => pick4 (fieldX op2) 16 12 16 16

/-- The base cost the step charges for the opcode bytes `b1`, `b2`, with the escape's own cost under
`CB_PREFIX_CHARGED` (R86, R88, R90). -/
def chargedCost (cfg : Config) (b1 b2 : Byte) : Nat :=
  if b1 = 0xCB then secondaryCost b2 + (if cfg.cbPrefixCharged then primaryCost 0xCB else 0) else primaryCost b1

/-- `IDLE_TICKS` (R7, R91). -/
def idleTicks : Nat := 4

/-- The name of an 8-bit register (R94). -/
def regName : Reg8 → String
  | .b => "B" | .c => "C" | .d => "D" | .e => "E" | .h => "H" | .l => "L" | .a => "A"

/-- The mnemonic of an instruction in this spec's spelling (R93, R94); immediates by their operand names. -/
def mnemonic : Instr → String
  | .nop => "NOP"
  | .ld_BC_d16 _ => "LD BC,d16"
  | .ld_mBC_A => "LD (BC),A"
  | .inc_BC => "INC BC"
  | .inc_B => "INC B"
  | .dec_B => "DEC B"
  | .ld_B_d8 _ => "LD B,d8"
  | .rlca => "RLCA"
  | .ld_ma16_SP _ => "LD (a16),SP"
  | .add_HL_BC => "ADD HL,BC"
  | .ld_A_mBC => "LD A,(BC)"
  | .dec_BC => "DEC BC"
  | .inc_C => "INC C"
  | .dec_C => "DEC C"
  | .ld_C_d8 _ => "LD C,d8"
  | .rrca => "RRCA"
  | .stop => "STOP"
  | .ld_DE_d16 _ => "LD DE,d16"
  | .ld_mDE_A => "LD (DE),A"
  | .inc_DE => "INC DE"
  | .inc_D => "INC D"
  | .dec_D => "DEC D"
  | .ld_D_d8 _ => "LD D,d8"
  | .rla => "RLA"
  | .jr_e8 _ => "JR e8"
  | .add_HL_DE => "ADD HL,DE"
  | .ld_A_mDE => "LD A,(DE)"
  | .dec_DE => "DEC DE"
  | .inc_E => "INC E"
  | .dec_E => "DEC E"
  | .ld_E_d8 _ => "LD E,d8"
  | .rra => "RRA"
  | .jr_NZ_e8 _ => "JR NZ,e8"
  | .ld_HL_d16 _ => "LD HL,d16"
  | .ld_mHLi_A => "LD (HL+),A"
  | .inc_HL => "INC HL"
  | .inc_H => "INC H"
  | .dec_H => "DEC H"
  | .ld_H_d8 _ => "LD H,d8"
  | .daa => "DAA"
  | .jr_Z_e8 _ => "JR Z,e8"
  | .add_HL_HL => "ADD HL,HL"
  | .ld_A_mHLi => "LD A,(HL+)"
  | .dec_HL => "DEC HL"
  | .inc_L => "INC L"
  | .dec_L => "DEC L"
  | .ld_L_d8 _ => "LD L,d8"
  | .cpl => "CPL"
  | .jr_NC_e8 _ => "JR NC,e8"
  | .ld_SP_d16 _ => "LD SP,d16"
  | .ld_mHLd_A => "LD (HL-),A"
  | .inc_SP => "INC SP"
  | .inc_mHL => "INC (HL)"
  | .dec_mHL => "DEC (HL)"
  | .ld_mHL_d8 _ => "LD (HL),d8"
  | .scf => "SCF"
  | .jr_C_e8 _ => "JR C,e8"
  | .add_HL_SP => "ADD HL,SP"
  | .ld_A_mHLd => "LD A,(HL-)"
  | .dec_SP => "DEC SP"
  | .inc_A => "INC A"
  | .dec_A => "DEC A"
  | .ld_A_d8 _ => "LD A,d8"
  | .ccf => "CCF"
  | .ld_B_B => "LD B,B"
  | .ld_B_C => "LD B,C"
  | .ld_B_D => "LD B,D"
  | .ld_B_E => "LD B,E"
  | .ld_B_H => "LD B,H"
  | .ld_B_L => "LD B,L"
  | .ld_B_mHL => "LD B,(HL)"
  | .ld_B_A => "LD B,A"
  | .ld_C_B => "LD C,B"
  | .ld_C_C => "LD C,C"
  | .ld_C_D => "LD C,D"
  | .ld_C_E => "LD C,E"
  | .ld_C_H => "LD C,H"
  | .ld_C_L => "LD C,L"
  | .ld_C_mHL => "LD C,(HL)"
  | .ld_C_A => "LD C,A"
  | .ld_D_B => "LD D,B"
  | .ld_D_C => "LD D,C"
  | .ld_D_D => "LD D,D"
  | .ld_D_E => "LD D,E"
  | .ld_D_H => "LD D,H"
  | .ld_D_L => "LD D,L"
  | .ld_D_mHL => "LD D,(HL)"
  | .ld_D_A => "LD D,A"
  | .ld_E_B => "LD E,B"
  | .ld_E_C => "LD E,C"
  | .ld_E_D => "LD E,D"
  | .ld_E_E => "LD E,E"
  | .ld_E_H => "LD E,H"
  | .ld_E_L => "LD E,L"
  | .ld_E_mHL => "LD E,(HL)"
  | .ld_E_A => "LD E,A"
  | .ld_H_B => "LD H,B"
  | .ld_H_C => "LD H,C"
  | .ld_H_D => "LD H,D"
  | .ld_H_E => "LD H,E"
  | .ld_H_H => "LD H,H"
  | .ld_H_L => "LD H,L"
  | .ld_H_mHL => "LD H,(HL)"
  | .ld_H_A => "LD H,A"
  | .ld_L_B => "LD L,B"
  | .ld_L_C => "LD L,C"
  | .ld_L_D => "LD L,D"
  | .ld_L_E => "LD L,E"
  | .ld_L_H => "LD L,H"
  | .ld_L_L => "LD L,L"
  | .ld_L_mHL => "LD L,(HL)"
  | .ld_L_A => "LD L,A"
  | .ld_mHL_B => "LD (HL),B"
  | .ld_mHL_C => "LD (HL),C"
  | .ld_mHL_D => "LD (HL),D"
  | .ld_mHL_E => "LD (HL),E"
  | .ld_mHL_H => "LD (HL),H"
  | .ld_mHL_L => "LD (HL),L"
  | .halt => "HALT"
  | .ld_mHL_A => "LD (HL),A"
  | .ld_A_B => "LD A,B"
  | .ld_A_C => "LD A,C"
  | .ld_A_D => "LD A,D"
  | .ld_A_E => "LD A,E"
  | .ld_A_H => "LD A,H"
  | .ld_A_L => "LD A,L"
  | .ld_A_mHL => "LD A,(HL)"
  | .ld_A_A => "LD A,A"
  | .add_A_B => "ADD A,B"
  | .add_A_C => "ADD A,C"
  | .add_A_D => "ADD A,D"
  | .add_A_E => "ADD A,E"
  | .add_A_H => "ADD A,H"
  | .add_A_L => "ADD A,L"
  | .add_A_mHL => "ADD A,(HL)"
  | .add_A_A => "ADD A,A"
  | .adc_A_B => "ADC A,B"
  | .adc_A_C => "ADC A,C"
  | .adc_A_D => "ADC A,D"
  | .adc_A_E => "ADC A,E"
  | .adc_A_H => "ADC A,H"
  | .adc_A_L => "ADC A,L"
  | .adc_A_mHL => "ADC A,(HL)"
  | .adc_A_A => "ADC A,A"
  | .sub_B => "SUB B"
  | .sub_C => "SUB C"
  | .sub_D => "SUB D"
  | .sub_E => "SUB E"
  | .sub_H => "SUB H"
  | .sub_L => "SUB L"
  | .sub_mHL => "SUB (HL)"
  | .sub_A => "SUB A"
  | .sbc_A_B => "SBC A,B"
  | .sbc_A_C => "SBC A,C"
  | .sbc_A_D => "SBC A,D"
  | .sbc_A_E => "SBC A,E"
  | .sbc_A_H => "SBC A,H"
  | .sbc_A_L => "SBC A,L"
  | .sbc_A_mHL => "SBC A,(HL)"
  | .sbc_A_A => "SBC A,A"
  | .and_B => "AND B"
  | .and_C => "AND C"
  | .and_D => "AND D"
  | .and_E => "AND E"
  | .and_H => "AND H"
  | .and_L => "AND L"
  | .and_mHL => "AND (HL)"
  | .and_A => "AND A"
  | .xor_B => "XOR B"
  | .xor_C => "XOR C"
  | .xor_D => "XOR D"
  | .xor_E => "XOR E"
  | .xor_H => "XOR H"
  | .xor_L => "XOR L"
  | .xor_mHL => "XOR (HL)"
  | .xor_A => "XOR A"
  | .or_B => "OR B"
  | .or_C => "OR C"
  | .or_D => "OR D"
  | .or_E => "OR E"
  | .or_H => "OR H"
  | .or_L => "OR L"
  | .or_mHL => "OR (HL)"
  | .or_A => "OR A"
  | .cp_B => "CP B"
  | .cp_C => "CP C"
  | .cp_D => "CP D"
  | .cp_E => "CP E"
  | .cp_H => "CP H"
  | .cp_L => "CP L"
  | .cp_mHL => "CP (HL)"
  | .cp_A => "CP A"
  | .ret_NZ => "RET NZ"
  | .pop_BC => "POP BC"
  | .jp_NZ_a16 _ => "JP NZ,a16"
  | .jp_a16 _ => "JP a16"
  | .call_NZ_a16 _ => "CALL NZ,a16"
  | .push_BC => "PUSH BC"
  | .add_A_d8 _ => "ADD A,d8"
  | .rst_00 => "RST 0x00"
  | .ret_Z => "RET Z"
  | .ret => "RET"
  | .jp_Z_a16 _ => "JP Z,a16"
  | .prefix_CB => "PREFIX CB"
  | .call_Z_a16 _ => "CALL Z,a16"
  | .call_a16 _ => "CALL a16"
  | .adc_A_d8 _ => "ADC A,d8"
  | .rst_08 => "RST 0x08"
  | .ret_NC => "RET NC"
  | .pop_DE => "POP DE"
  | .jp_NC_a16 _ => "JP NC,a16"
  | .illegal_D3 => "ILLEGAL_D3"
  | .call_NC_a16 _ => "CALL NC,a16"
  | .push_DE => "PUSH DE"
  | .sub_d8 _ => "SUB d8"
  | .rst_10 => "RST 0x10"
  | .ret_C => "RET C"
  | .reti => "RETI"
  | .jp_C_a16 _ => "JP C,a16"
  | .illegal_DB => "ILLEGAL_DB"
  | .call_C_a16 _ => "CALL C,a16"
  | .illegal_DD => "ILLEGAL_DD"
  | .sbc_A_d8 _ => "SBC A,d8"
  | .rst_18 => "RST 0x18"
  | .ldh_ma8_A _ => "LDH (a8),A"
  | .pop_HL => "POP HL"
  | .ld_mC_A => "LD (C),A"
  | .illegal_E3 => "ILLEGAL_E3"
  | .illegal_E4 => "ILLEGAL_E4"
  | .push_HL => "PUSH HL"
  | .and_d8 _ => "AND d8"
  | .rst_20 => "RST 0x20"
  | .add_SP_e8 _ => "ADD SP,e8"
  | .jp_HL => "JP HL"
  | .ld_ma16_A _ => "LD (a16),A"
  | .illegal_EB => "ILLEGAL_EB"
  | .illegal_EC => "ILLEGAL_EC"
  | .illegal_ED => "ILLEGAL_ED"
  | .xor_d8 _ => "XOR d8"
  | .rst_28 => "RST 0x28"
  | .ldh_A_ma8 _ => "LDH A,(a8)"
  | .pop_AF => "POP AF"
  | .ld_A_mC => "LD A,(C)"
  | .di => "DI"
  | .illegal_F4 => "ILLEGAL_F4"
  | .push_AF => "PUSH AF"
  | .or_d8 _ => "OR d8"
  | .rst_30 => "RST 0x30"
  | .ld_HL_SPe8 _ => "LD HL,SP+e8"
  | .ld_SP_HL => "LD SP,HL"
  | .ld_A_ma16 _ => "LD A,(a16)"
  | .ei => "EI"
  | .illegal_FC => "ILLEGAL_FC"
  | .illegal_FD => "ILLEGAL_FD"
  | .cp_d8 _ => "CP d8"
  | .rst_38 => "RST 0x38"
  | .rlc_r r => "RLC " ++ regName r
  | .rlc_mHL => "RLC " ++ "(HL)"
  | .rrc_r r => "RRC " ++ regName r
  | .rrc_mHL => "RRC " ++ "(HL)"
  | .rl_r r => "RL " ++ regName r
  | .rl_mHL => "RL " ++ "(HL)"
  | .rr_r r => "RR " ++ regName r
  | .rr_mHL => "RR " ++ "(HL)"
  | .sla_r r => "SLA " ++ regName r
  | .sla_mHL => "SLA " ++ "(HL)"
  | .sra_r r => "SRA " ++ regName r
  | .sra_mHL => "SRA " ++ "(HL)"
  | .swap_r r => "SWAP " ++ regName r
  | .swap_mHL => "SWAP " ++ "(HL)"
  | .srl_r r => "SRL " ++ regName r
  | .srl_mHL => "SRL " ++ "(HL)"
  | .bit_b_r b r => "BIT " ++ toString b.toNat ++ "," ++ regName r
  | .bit_b_mHL b => "BIT " ++ toString b.toNat ++ "," ++ "(HL)"
  | .res_b_r b r => "RES " ++ toString b.toNat ++ "," ++ regName r
  | .res_b_mHL b => "RES " ++ toString b.toNat ++ "," ++ "(HL)"
  | .set_b_r b r => "SET " ++ toString b.toNat ++ "," ++ regName r
  | .set_b_mHL b => "SET " ++ toString b.toNat ++ "," ++ "(HL)"

/-- An entry of an opcode table: handler, base cost and mnemonic (R2, R93). -/
structure TableEntry where
  handler : Instr
  cost : Nat
  mnemonic : String
deriving DecidableEq, Repr

/-- The entry of the primary table at a code point, operand bytes zero (R93). -/
def primaryEntry (b1 : Byte) : TableEntry :=
  ⟨primaryTable b1 0 0, primaryCost b1, mnemonic (primaryTable b1 0 0)⟩

/-- The entry of the secondary table at a selector (R93). -/
def secondaryEntry (op2 : Byte) : TableEntry :=
  ⟨secondaryTable op2, secondaryCost op2, mnemonic (secondaryTable op2)⟩

end Sys2Proof.Machine
end

