-- ==== Sys2Proof/Machine/State.lean ====
section
/-! DEFINITION. The state of the core as plain data: the registers and control state of 10_state.md, the parameters of
R7, the memory behind the contract of R50, and the moves and ports of the agents the core sits between (R249). -/

namespace Sys2Proof.Machine

/-- The run-state (R31). -/
inductive RunState where
  | running | halted | stopped
deriving DecidableEq, Repr

/-- The fault record `(kind, pc0, bytes)` of R32 and R242: the constructor is the kind, `pc0` the address of the opcode
byte, `bytes` the opcode bytes fetched. An instruction that faults latches its record in a NEXT state (R243); the fault
OUTCOME is answered by the step of a core whose latch is set, with the latched record (R244). Safe: log entry 1. -/
inductive Fault where
  /-- Latched by the illegal primary code points (R83, R227), code 1 of R241. Raised as an outcome by `step` on a core
  that has latched it. Safe: the run is over (R244). -/
  | illegalOpcode (pc0 : Word) (bytes : List Byte)
  /-- Latched by a secondary code point with no wired handler (R84, R228), code 2 of R241. Raised as an outcome by `step`
  on a core that has latched it. Safe: the run is over (R244). -/
  | unimplementedOpcode (pc0 : Word) (bytes : List Byte)
deriving DecidableEq, Repr

/-- Why a move is refused. -/
inductive Refusal where
  /-- Raised by an arm of `exec` whose instruction has no meaning yet. Safe: nothing is claimed of it. -/
  | notModelled (mnemonic : String)
  /-- Raised by `step` on the move `divert` while IME is false (R249, R252: "The model gives them no move"). Safe. -/
  | divertWhileDisabled
  /-- Raised by `step` on the moves `resume` and `divert` while a fault is latched (R244, R252). Safe. -/
  | actionWhileFaulted
  /-- Raised by `step` on a `resume` or `divert` that follows another with no step between (R254: "The collaborator picks
  at most one action between two steps"). Safe. -/
  | secondAction
  /-- Raised by `step` on the move `reset` with an initial state R271 does not admit ("is refused, not repaired"). Safe. -/
  | initStateNotAdmitted
deriving DecidableEq, Repr

/-- What a step returns to the scheduler (R86). -/
inductive StepReturn where
  | executed (ticks : Nat)
  | idle (ticks : Nat)
  | fault (record : Fault)
deriving DecidableEq, Repr

/-- One access of the memory contract (R50): a byte read, with the byte answered, or a byte write. -/
inductive Access where
  | read (addr : Word) (value : Byte)
  | write (addr : Word) (value : Byte)
deriving DecidableEq, Repr

/-- The memory behind the contract, as the deterministic simulator of R56: the cells that differ from what an
unlisted address reads as, by rising address (`Memory.wf`). -/
abbrev Memory := List Host.Cell

/-- An initial state of the core (R35, R270); its fault latch is `none` and its `ime_pending` false (R271). -/
structure InitState where
  a : Byte
  f : Byte
  b : Byte
  c : Byte
  d : Byte
  e : Byte
  h : Byte
  l : Byte
  sp : Word
  pc : Word
  ticks : Ticks
  ime : Bool
  run : RunState
deriving DecidableEq, Repr

/-- A move of an agent outside the core, at a step boundary (R249). -/
inductive Move where
  /-- The scheduler calls the step (R86). -/
  | step
  /-- The interrupt-dispatch collaborator resumes the core (R250). -/
  | resume
  /-- The interrupt-dispatch collaborator diverts the core to `vector` (R251). -/
  | divert (vector : Word)
  /-- The platform resets the core to an initial state (R274). -/
  | reset (init : InitState)
  /-- Another component changes a byte behind the memory contract (R56, R62; log entry 5). -/
  | memoryChange (addr : Word) (value : Byte)
deriving DecidableEq, Repr

/-- The machine: core state, parameters, memory, and the moves and ports of the agents around the core. -/
structure State where
  /-- Accumulator (R21). -/
  a : Byte
  b : Byte
  c : Byte
  d : Byte
  e : Byte
  h : Byte
  l : Byte
  /-- The packed flag byte, the canonical storage of the flags (R23, R24). -/
  f : Byte
  /-- Stack pointer (R27). -/
  sp : Word
  /-- Program counter (R28). -/
  pc : Word
  /-- Cycle counter (R29). -/
  ticks : Ticks
  /-- Interrupt-master-enable (R30). -/
  ime : Bool
  /-- Run-state (R31). -/
  run : RunState
  /-- Fault latch (R32). -/
  fault : Option Fault
  /-- Pending enable, read only when `EI_DELAY` is true (R33). -/
  imePending : Bool
  /-- The parameters of R7; no move writes them (R272). -/
  cfg : Config
  /-- The memory the collaborator answers from (R50, R56). -/
  mem : Memory
  /-- The moves the outside agents make next, in order; when empty, the scheduler calls the step (log entry 9). -/
  agenda : List Move
  /-- Whether the interrupt-dispatch collaborator has acted since the last step (R254; log entry 17). -/
  acted : Bool
  /-- The accesses of the current move, in order (R56; log entry 7). -/
  bus : List Access
  /-- The surcharge of the current step, the variable `extra` of R86 (log entry 8). -/
  extra : Nat
  /-- What the last step returned (R86; log entry 8). -/
  ret : Option StepReturn
deriving DecidableEq, Repr

/-- The outcome of a meaning or a move. -/
abbrev Result := Host.Outcome State Fault Refusal

/-- Preset P0 of R35: power-on, with a boot ROM at 0x0000. -/
def InitState.presetP0 : InitState where
  a := 0x00
  f := 0x00
  b := 0x00
  c := 0x00
  d := 0x00
  e := 0x00
  h := 0x00
  l := 0x00
  sp := 0x0000
  pc := 0x0000
  ticks := 0
  ime := false
  run := .running

/-- Preset P1 of R35: after the console's boot ROM. -/
def InitState.presetP1 : InitState where
  a := 0x01
  f := 0xB0
  b := 0x00
  c := 0x13
  d := 0x00
  e := 0xD8
  h := 0x01
  l := 0x4D
  sp := 0xFFFE
  pc := 0x0100
  ticks := 0
  ime := false
  run := .running

/-- A core that starts a run from `init` (R270, R271), with parameters `cfg` and memory `mem`. -/
def State.ofInit (init : InitState) (cfg : Config) (mem : Memory) : State where
  a := init.a
  b := init.b
  c := init.c
  d := init.d
  e := init.e
  h := init.h
  l := init.l
  f := init.f
  sp := init.sp
  pc := init.pc
  ticks := init.ticks
  ime := init.ime
  run := init.run
  fault := none
  imePending := false
  cfg := cfg
  mem := mem
  agenda := []
  acted := false
  bus := []
  extra := 0
  ret := none

/-- The machine right after reset: preset P0 (R35; DESIGN CHOICE, log entry 2), the standard parameters (log entry 3), no
memory listed, no move scheduled. -/
def State.reset : State := State.ofInit InitState.presetP0 Config.standard []

end Sys2Proof.Machine
end

