-- ==== Sys2Proof/Machine/Ops.lean ====
section
/-! DEFINITION. The named operations over memory and control state: the memory contract (R50 to R56), the stack and
16-bit primitives (R57 to R59), the fault latch (R242, R243), the divert and the other actions between steps (R250,
R251, R274), and the taken-branch surcharge (R171). -/

namespace Sys2Proof.Machine

/-! ## Memory -/

/-- What an address reads as that nothing has written: DESIGN CHOICE 0x00, log entry 6. -/
def unlistedByte : Byte := 0x00

/-- The byte a memory holds at an address. -/
def Memory.read : Memory → Nat → Byte
  | [], _ => unlistedByte
  | (k, v) :: rest, addr => if k = addr then v else Memory.read rest addr

/-- A memory with one byte written, kept in canonical form. -/
def Memory.write : Memory → Nat → Byte → Memory
  | [], addr, v => if v = unlistedByte then [] else [(addr, v)]
  | (k, w) :: rest, addr, v =>
    if addr < k then (if v = unlistedByte then (k, w) :: rest else (addr, v) :: (k, w) :: rest)
    else if addr = k then (if v = unlistedByte then rest else (addr, v) :: rest)
    else (k, w) :: Memory.write rest addr v

/-- The canonical form from address `low` on: rising addresses of the 16-bit space (R51), no cell equal to what an
unlisted address reads as. -/
def Memory.wfFrom : Nat → Memory → Bool
  | _, [] => true
  | low, (k, v) :: rest => decide (low ≤ k) && decide (k < 65536) && (v != unlistedByte) && Memory.wfFrom (k + 1) rest

/-- The canonical form of a memory. -/
def Memory.wf (m : Memory) : Bool := Memory.wfFrom 0 m

/-- The byte the collaborator holds at an address; looking at it is no access. -/
def State.peek (s : State) (addr : Word) : Byte := Memory.read s.mem addr.toNat

/-- `MemRead(addr, 1)`: one byte read (R10, R50), with the state after it. -/
def State.memRead (s : State) (addr : Word) : Byte × State :=
  (s.peek addr, { s with bus := s.bus ++ [.read addr (s.peek addr)] })

/-- `MemWrite(addr, 1, v)`: one byte write (R10, R50). -/
def State.memWrite (s : State) (addr : Word) (v : Byte) : State :=
  { s with mem := Memory.write s.mem addr.toNat v, bus := s.bus ++ [.write addr v] }

/-- `FetchByte()`: one read at `PC`, which then advances by 1 modulo 2^16 (R10, R28). -/
def State.fetchByte (s : State) : Byte × State :=
  let m := s.memRead s.pc
  (m.1, { m.2 with pc := s.pc + 1 })

/-- `Push16(v)`: high byte at `SP - 1`, then low byte at `SP - 2`, then `SP <- SP - 2` (R57). -/
def State.push16 (s : State) (v : Word) : State :=
  { (s.memWrite (s.sp - 1) (hiByte v)).memWrite (s.sp - 2) (loByte v) with sp := s.sp - 2 }

/-- `Pop16()`: low byte from `SP`, then high byte from `SP + 1`, then `SP <- SP + 2` (R58). -/
def State.pop16 (s : State) : Word × State :=
  let lo := s.memRead s.sp
  let hi := lo.2.memRead (s.sp + 1)
  (word hi.1 lo.1, { hi.2 with sp := s.sp + 2 })

/-- `Write16(addr, v)`: low byte at `addr`, then high byte at `addr + 1` (R59). -/
def State.write16 (s : State) (addr : Word) (v : Word) : State :=
  (s.memWrite addr (loByte v)).memWrite (addr + 1) (hiByte v)

/-! ## Faults -/

/-- The number of a fault kind (R241). -/
def Fault.code : Fault → Nat
  | .illegalOpcode _ _ => 1
  | .unimplementedOpcode _ _ => 2

/-- Taking a fault: the latch is set and nothing else changes (R243). -/
def State.latchFault (s : State) (record : Fault) : State := { s with fault := some record }

/-- The fault of the illegal code point `b1`, once it has been fetched: `pc0` is the address before `PC` (R83). -/
def State.latchIllegal (s : State) (b1 : Byte) : State :=
  s.latchFault (.illegalOpcode (s.pc - 1) [b1])

/-- The fault of an unwired selector, once 0xCB and `op2` have been fetched: `pc0` is two addresses before `PC` (R84). -/
def State.latchUnimplemented (s : State) (op2 : Byte) : State :=
  s.latchFault (.unimplementedOpcode (s.pc - 2) [0xCB, op2])

/-! ## Actions between steps -/

/-- The effect of `Divert(vector)`, the one way control is taken from the program: the pc is pushed, IME and the
pending enable are cleared, the core runs at the vector (R251). -/
def State.takeDivert (s : State) (vector : Word) : State :=
  { s.push16 s.pc with pc := vector, ime := false, imePending := false, run := .running }

/-- The return from a diverted handler, the whole of `RETI`: the pc is popped and IME is set (R181, R255). -/
def State.returnFromDivert (s : State) : State :=
  let p := s.pop16
  { p.2 with pc := p.1, ime := true, imePending := false }

/-- An action of the interrupt-dispatch collaborator: refused while a fault is latched (R252), and when the collaborator
has acted since the last step (R254). -/
def State.collaborate (s : State) (effect : State → State) : Result :=
  if s.fault.isSome then .refused .actionWhileFaulted
  else if s.acted then .refused .secondAction
  else .next { effect s with acted := true }

/-- The move `Divert(vector)`: refused while a fault is latched, while IME is false, and as a second action (R249, R251,
R252, R254). -/
def State.divert (s : State) (vector : Word) : Result :=
  if s.fault.isNone && !s.ime then .refused .divertWhileDisabled
  else s.collaborate fun s => s.takeDivert vector

/-- The move `Resume`: refused while a fault is latched and as a second action; of a running core it leaves the core as
it is (R250, R252, R254). -/
def State.resume (s : State) : Result := s.collaborate fun s => { s with run := .running }

/-- Whether R271 admits an initial state: the low nibble of `F` is 0. -/
def InitState.admitted (init : InitState) : Bool := init.f &&& 0x0F == 0

/-- The move of an external reset: the whole core state becomes `init`, memory and parameters stay (R271, R274). -/
def State.externalReset (s : State) (init : InitState) : Result :=
  if init.admitted then .next { State.ofInit init s.cfg s.mem with agenda := s.agenda }
  else .refused .initStateNotAdmitted

/-- A byte behind the contract changed by another component between two steps, at any time and whatever the core's
state: memory is not core state (R34, R56, R62). The core makes no access. -/
def State.memoryChange (s : State) (addr : Word) (value : Byte) : Result :=
  .next { s with mem := Memory.write s.mem addr.toNat value }

/-! ## Time -/

/-- The conditional branches that carry a surcharge (R171). -/
inductive BranchKind where
  | jr | jp | call | ret
deriving DecidableEq, Repr

/-- `TAKEN_EXTRA` (R7, R171). -/
def takenExtra : BranchKind → Nat
  | .jr => 4
  | .jp => 4
  | .call => 12
  | .ret => 12

/-- `ticks <- ticks + n` modulo 2^32 (R9). -/
def State.addTicks (s : State) (n : Nat) : State := { s with ticks := s.ticks + BitVec.ofNat 32 n }

/-- `TakeBranch(kind)`: the surcharge goes to `ticks` and to the step's `extra` (R171). -/
def State.takeBranch (s : State) (kind : BranchKind) : State :=
  { s.addTicks (takenExtra kind) with extra := s.extra + takenExtra kind }

end Sys2Proof.Machine
end

