-- ==== Sys2Proof/Machine/Flags.lean ====
section
/-! DEFINITION. The flag byte (R23, R24), the conditions (R170), and every flag-computing primitive: `Add8` (R101), `Sub8`
(R102), the logic results (R107 to R109), increment and decrement (R111, R112), decimal adjust (R113), `Add16` (R130),
`AddSPe` (R134), the rotate and shift primitive (R141) and the bit primitives (R161 to R166). -/

namespace Sys2Proof.Machine

/-- The four flags (R23). -/
inductive Flag where
  | z | n | h | c
deriving DecidableEq, Repr

/-- The bit of `F` that holds a flag (R23). -/
def Flag.bit : Flag → Nat
  | .z => 7
  | .n => 6
  | .h => 5
  | .c => 4

/-- Read a flag: its bit of `F` (R24). -/
def State.flag (s : State) (fl : Flag) : Bool := s.f.getLsbD fl.bit

/-- A byte with one bit written. -/
def writeBit (v : Byte) (i : Nat) (x : Bool) : Byte :=
  if x then v ||| (1#8 <<< i) else v &&& ~~~(1#8 <<< i)

/-- Write one flag: only its bit of `F` changes (R24). -/
def State.setFlag (s : State) (fl : Flag) (x : Bool) : State := { s with f := writeBit s.f fl.bit x }

/-- Write `Zf`, `Nf` and `Hf`, one by one; `Cf` keeps its value. -/
def State.setZnh (s : State) (z n h : Bool) : State := ((s.setFlag .z z).setFlag .n n).setFlag .h h

/-- Write `Nf`, `Hf` and `Cf`, one by one; `Zf` keeps its value. -/
def State.setNhc (s : State) (n h c : Bool) : State := ((s.setFlag .n n).setFlag .h h).setFlag .c c

/-- Write all four flags, one by one. -/
def State.setZnhc (s : State) (z n h c : Bool) : State := (s.setFlag .z z).setNhc n h c

/-- `Cond(cc)` (R77, R170). -/
def State.cond (s : State) : Cond → Bool
  | .nz => !s.flag .z
  | .z => s.flag .z
  | .nc => !s.flag .c
  | .c => s.flag .c

/-- A result byte with the four flags computed beside it. -/
structure AluResult where
  res : Byte
  z : Bool
  n : Bool
  h : Bool
  c : Bool
deriving DecidableEq, Repr

/-- `Add8(a, b, cin)` (R101). -/
def add8 (a b : Byte) (cin : Bool) : AluResult :=
  let wide : Nat := a.toNat + b.toNat + cin.toNat
  let res : Byte := BitVec.ofNat 8 wide
  { res := res
    z := res == 0
    n := false
    h := (a ^^^ b ^^^ res) &&& 0x10 != 0
    c := wide &&& 0x100 != 0 }

/-- `Sub8(a, b, cin)` (R102); bit 8 is that of the wide two's-complement difference. -/
def sub8 (a b : Byte) (cin : Bool) : AluResult :=
  let wide : Int := (a.toNat : Int) - b.toNat - cin.toNat
  let res : Byte := BitVec.ofInt 8 wide
  { res := res
    z := res == 0
    n := true
    h := (a ^^^ b ^^^ res) &&& 0x10 != 0
    c := (BitVec.ofInt 9 wide).getLsbD 8 }

/-- The result of a logic operation: `Zf` from the result, `Nf` and `Cf` clear, `Hf` as given (R107 to R109). -/
def logic8 (res : Byte) (h : Bool) : AluResult :=
  { res := res, z := res == 0, n := false, h := h, c := false }

/-- The result and flags of an accumulator operation on `A = a`, operand `v` and carry `cin` (R103 to R110). -/
def aluResult (op : AluOp) (a v : Byte) (cin : Bool) : AluResult :=
  match op with
  | .add => add8 a v false
  | .adc => add8 a v cin
  | .sub => sub8 a v false
  | .sbc => sub8 a v cin
  | .and => logic8 (a &&& v) true
  | .xor => logic8 (a ^^^ v) false
  | .or => logic8 (a ||| v) false
  | .cp => sub8 a v false

/-- Whether an accumulator operation writes `A`: all but `CP` (R100, R110). -/
def writesA : AluOp → Bool
  | .cp => false
  | _ => true

/-- The increment of a byte: result, `Zf` and `Hf` (R111). -/
def inc8 (old : Byte) : Byte × Bool × Bool :=
  let res := old + 1
  (res, res == 0, old &&& 0x0F == 0x0F)

/-- The decrement of a byte: result, `Zf` and `Hf` (R112). -/
def dec8 (old : Byte) : Byte × Bool × Bool :=
  let res := old - 1
  (res, res == 0, old &&& 0x0F == 0x00)

/-- The adjustment of `DAA`; both tests read `A` as it was (R113). -/
def daaAdjust (a : Byte) (n h c : Bool) : Byte :=
  let low : Byte := if h || (!n && decide (a &&& 0x0F > 0x09)) then 0x06 else 0x00
  let high : Byte := if c || (!n && decide (a > 0x99)) then 0x60 else 0x00
  low ||| high

/-- The decimal adjust: result, `Zf` and `Cf` (R113). -/
def daa8 (a : Byte) (n h c : Bool) : Byte × Bool × Bool :=
  let adj := daaAdjust a n h c
  let res := if n then a - adj else a + adj
  (res, res == 0, adj &&& 0x60 != 0)

/-- `Add16(a, b)`: result, `Hf` and `Cf` (R130). -/
def add16 (a b : Word) : Word × Bool × Bool :=
  let wide : Nat := a.toNat + b.toNat
  let res : Word := BitVec.ofNat 16 wide
  (res, (a ^^^ b ^^^ res) &&& 0x1000 != 0, wide &&& 0x10000 != 0)

/-- `AddSPe(e)` on `SP = sp`: result, `Hf` and `Cf` at byte width (R134). -/
def addSpE (sp : Word) (e : Byte) : Word × Bool × Bool :=
  let res := sp + sext16 e
  (res, (sp ^^^ sext16 e ^^^ res) &&& 0x010 != 0, (sp ^^^ sext16 e ^^^ res) &&& 0x100 != 0)

/-- The byte with value 1 or 0 of a flag (R8). -/
def bitByte (x : Bool) : Byte := if x then 1 else 0

/-- `Rot(kind, old)` with the carry before the instruction: the result and the bit shifted or rotated out (R141). -/
def rot8 (kind : RotKind) (old : Byte) (carry : Bool) : Byte × Bool :=
  match kind with
  | .rlc => ((old <<< 1) + bitByte (old.getLsbD 7), old.getLsbD 7)
  | .rrc => ((old >>> 1) + (bitByte (old.getLsbD 0) <<< 7), old.getLsbD 0)
  | .rl => ((old <<< 1) + bitByte carry, old.getLsbD 7)
  | .rr => ((old >>> 1) + (bitByte carry <<< 7), old.getLsbD 0)
  | .sla => (old <<< 1, old.getLsbD 7)
  | .sra => ((old >>> 1) + (old &&& 0x80), old.getLsbD 0)
  | .swap => ((old <<< 4) + (old >>> 4), false)
  | .srl => (old >>> 1, old.getLsbD 0)

/-- The mask `1 << b` of a bit number (R160). -/
def bitMask (b : BitVec 3) : Byte := 1#8 <<< b.toNat

/-- `v & ~(1 << b)` (R163, R164). -/
def resetBit (b : BitVec 3) (v : Byte) : Byte := v &&& ~~~(bitMask b)

/-- `v | (1 << b)` (R165, R166). -/
def setBitOn (b : BitVec 3) (v : Byte) : Byte := v ||| bitMask b

end Sys2Proof.Machine
end

