-- ==== Sys2Proof/Machine/Operands.lean ====
section
/-! DEFINITION. Every operand form: the 8-bit registers (R74), the 16-bit views and register pairs (R22, R75, R76), the
target of a read-modify-write form (R140, R160) and the addressing modes of R190. -/

namespace Sys2Proof.Machine

/-- `R8[r]` (R9, R74). -/
def State.reg8 (s : State) : Reg8 → Byte
  | .b => s.b
  | .c => s.c
  | .d => s.d
  | .e => s.e
  | .h => s.h
  | .l => s.l
  | .a => s.a

/-- `R8[r] <- v` (R9, R74). -/
def State.setReg8 (s : State) (r : Reg8) (v : Byte) : State :=
  match r with
  | .b => { s with b := v }
  | .c => { s with c := v }
  | .d => { s with d := v }
  | .e => { s with e := v }
  | .h => { s with h := v }
  | .l => { s with l := v }
  | .a => { s with a := v }

/-- The view `BC = B:C` (R22). -/
def State.bc (s : State) : Word := word s.b s.c

/-- The view `DE = D:E` (R22). -/
def State.de (s : State) : Word := word s.d s.e

/-- The view `HL = H:L` (R22). -/
def State.hl (s : State) : Word := word s.h s.l

/-- The view `AF = A:F` (R22). -/
def State.af (s : State) : Word := word s.a s.f

/-- `BC <- v` (R22). -/
def State.setBc (s : State) (v : Word) : State := { s with b := hiByte v, c := loByte v }

/-- `DE <- v` (R22). -/
def State.setDe (s : State) (v : Word) : State := { s with d := hiByte v, e := loByte v }

/-- `HL <- v` (R22). -/
def State.setHl (s : State) (v : Word) : State := { s with h := hiByte v, l := loByte v }

/-- `AF <- v`, the low nibble of `F` forced to zero (R22, R25). -/
def State.setAf (s : State) (v : Word) : State := { s with a := hiByte v, f := loByte v &&& 0xF0 }

/-- `R16[p]` (R75). -/
def State.reg16 (s : State) : Reg16 → Word
  | .bc => s.bc
  | .de => s.de
  | .hl => s.hl
  | .sp => s.sp

/-- `R16[p] <- v` (R75). -/
def State.setReg16 (s : State) (p : Reg16) (v : Word) : State :=
  match p with
  | .bc => s.setBc v
  | .de => s.setDe v
  | .hl => s.setHl v
  | .sp => { s with sp := v }

/-- The pair a stack field selects (R76). -/
def State.stackReg (s : State) : StackReg → Word
  | .bc => s.bc
  | .de => s.de
  | .hl => s.hl
  | .af => s.af

/-- Write the pair a stack field selects (R76). -/
def State.setStackReg (s : State) (q : StackReg) (v : Word) : State :=
  match q with
  | .bc => s.setBc v
  | .de => s.setDe v
  | .hl => s.setHl v
  | .af => s.setAf v

/-- The target operand read: the register, or one read at `HL` (R140, R160). -/
def State.readTarget (s : State) (t : Target8) : Byte × State :=
  match t with
  | .reg r => (s.reg8 r, s)
  | .ind => s.memRead s.hl

/-- The target operand written: the register, or one write at `HL` (R140, R160). -/
def State.writeTarget (s : State) (t : Target8) (v : Byte) : State :=
  match t with
  | .reg r => s.setReg8 r v
  | .ind => s.memWrite s.hl v

/-- `HIGH_PAGE` (R7, R66). -/
def highPage : Word := 0xFF00

/-- The high-page address `HIGH_PAGE + offset` (R72, R190). -/
def highPageAddr (offset : Byte) : Word := highPage + zext16 offset

end Sys2Proof.Machine
end

