-- ==== Sys2Proof/Machine/Alu16.lean ====
section
/-! DEFINITION. The 16-bit arithmetic instructions (41_alu16.md, R130 to R137). -/

namespace Sys2Proof.Machine

/-- `ADD HL,rr`: `Zf` keeps its value (R130, R131). -/
def addToHl (p : Reg16) (s : State) : Result :=
  let r := add16 s.hl (s.reg16 p)
  .next ((s.setHl r.1).setNhc false r.2.1 r.2.2)

/-- `INC rr`: no flag is written (R132). -/
def inc16 (p : Reg16) (s : State) : Result := .next (s.setReg16 p (s.reg16 p + 1))

/-- `DEC rr`: no flag is written (R133). -/
def dec16 (p : Reg16) (s : State) : Result := .next (s.setReg16 p (s.reg16 p - 1))

/-- `ADD SP,e8` (R134, R135). -/
def addSpDisp (e8 : Byte) (s : State) : Result :=
  let r := addSpE s.sp e8
  .next ({ s with sp := r.1 }.setZnhc false false r.2.1 r.2.2)

/-- `LD HL,SP+e8` (R134, R136). -/
def loadHlSpDisp (e8 : Byte) (s : State) : Result :=
  let r := addSpE s.sp e8
  .next ((s.setHl r.1).setZnhc false false r.2.1 r.2.2)

/-- `INC BC`, 0x03 (R132). -/
def execInc_BC (s : State) : Result := inc16 .bc s

/-- `ADD HL,BC`, 0x09 (R131). -/
def execAdd_HL_BC (s : State) : Result := addToHl .bc s

/-- `DEC BC`, 0x0B (R133). -/
def execDec_BC (s : State) : Result := dec16 .bc s

/-- `INC DE`, 0x13 (R132). -/
def execInc_DE (s : State) : Result := inc16 .de s

/-- `ADD HL,DE`, 0x19 (R131). -/
def execAdd_HL_DE (s : State) : Result := addToHl .de s

/-- `DEC DE`, 0x1B (R133). -/
def execDec_DE (s : State) : Result := dec16 .de s

/-- `INC HL`, 0x23 (R132). -/
def execInc_HL (s : State) : Result := inc16 .hl s

/-- `ADD HL,HL`, 0x29 (R131). -/
def execAdd_HL_HL (s : State) : Result := addToHl .hl s

/-- `DEC HL`, 0x2B (R133). -/
def execDec_HL (s : State) : Result := dec16 .hl s

/-- `INC SP`, 0x33 (R132). -/
def execInc_SP (s : State) : Result := inc16 .sp s

/-- `ADD HL,SP`, 0x39 (R131). -/
def execAdd_HL_SP (s : State) : Result := addToHl .sp s

/-- `DEC SP`, 0x3B (R133). -/
def execDec_SP (s : State) : Result := dec16 .sp s

/-- `ADD SP,e8`, 0xE8 (R135). -/
def execAdd_SP_e8 (e8 : Byte) (s : State) : Result := addSpDisp e8 s

/-- `LD HL,SP+e8`, 0xF8 (R136). -/
def execLd_HL_SPe8 (e8 : Byte) (s : State) : Result := loadHlSpDisp e8 s

end Sys2Proof.Machine
end

