-- ==== Sys2Proof/Machine/Alu8.lean ====
section
/-! DEFINITION. The 8-bit arithmetic and logic instructions (40_alu8.md, R100 to R117): one meaning per row of the
opcode table, over the shared operations that come first. Every meaning starts from the state in which the bytes of
its instruction have been fetched (R11, R86). -/

namespace Sys2Proof.Machine

/-- An accumulator operation on the operand value `v`: the result goes to `A` (except `CP`), the flags to `F`; `Cf` is
read before it is written (R103 to R110). -/
def State.alu (s : State) (op : AluOp) (v : Byte) : State :=
  let r := aluResult op s.a v (s.flag .c)
  (if writesA op then { s with a := r.res } else s).setZnhc r.z r.n r.h r.c

/-- The register form of an accumulator operation (R100). -/
def aluReg (op : AluOp) (r : Reg8) (s : State) : Result := .next (s.alu op (s.reg8 r))

/-- The `(HL)` form of an accumulator operation: one read (R100). -/
def aluInd (op : AluOp) (s : State) : Result :=
  let m := s.memRead s.hl
  .next (m.2.alu op m.1)

/-- The immediate form of an accumulator operation (R100). -/
def aluImm (op : AluOp) (d8 : Byte) (s : State) : Result := .next (s.alu op d8)

/-- `INC` of a register or of the byte at `HL` (R111). -/
def incTarget (t : Target8) (s : State) : Result :=
  let m := s.readTarget t
  let r := inc8 m.1
  .next ((m.2.writeTarget t r.1).setZnh r.2.1 false r.2.2)

/-- `DEC` of a register or of the byte at `HL` (R112). -/
def decTarget (t : Target8) (s : State) : Result :=
  let m := s.readTarget t
  let r := dec8 m.1
  .next ((m.2.writeTarget t r.1).setZnh r.2.1 true r.2.2)

/-- Decimal adjust (R113): `Nf` keeps its value. -/
def decimalAdjust (s : State) : Result :=
  let r := daa8 s.a (s.flag .n) (s.flag .h) (s.flag .c)
  .next ((({ s with a := r.1 }.setFlag .z r.2.1).setFlag .h false).setFlag .c r.2.2)

/-- Complement of `A` (R114). -/
def complementA (s : State) : Result :=
  .next (({ s with a := ~~~s.a }.setFlag .n true).setFlag .h true)

/-- Set the carry flag (R115). -/
def setCarry (s : State) : Result := .next (s.setNhc false false true)

/-- Complement the carry flag (R116). -/
def complementCarry (s : State) : Result := .next (s.setNhc false false (!s.flag .c))

/-- `INC B`, 0x04 (R111). -/
def execInc_B (s : State) : Result := incTarget (.reg .b) s

/-- `DEC B`, 0x05 (R112). -/
def execDec_B (s : State) : Result := decTarget (.reg .b) s

/-- `INC C`, 0x0C (R111). -/
def execInc_C (s : State) : Result := incTarget (.reg .c) s

/-- `DEC C`, 0x0D (R112). -/
def execDec_C (s : State) : Result := decTarget (.reg .c) s

/-- `INC D`, 0x14 (R111). -/
def execInc_D (s : State) : Result := incTarget (.reg .d) s

/-- `DEC D`, 0x15 (R112). -/
def execDec_D (s : State) : Result := decTarget (.reg .d) s

/-- `INC E`, 0x1C (R111). -/
def execInc_E (s : State) : Result := incTarget (.reg .e) s

/-- `DEC E`, 0x1D (R112). -/
def execDec_E (s : State) : Result := decTarget (.reg .e) s

/-- `INC H`, 0x24 (R111). -/
def execInc_H (s : State) : Result := incTarget (.reg .h) s

/-- `DEC H`, 0x25 (R112). -/
def execDec_H (s : State) : Result := decTarget (.reg .h) s

/-- `DAA`, 0x27 (R113). -/
def execDaa (s : State) : Result := decimalAdjust s

/-- `INC L`, 0x2C (R111). -/
def execInc_L (s : State) : Result := incTarget (.reg .l) s

/-- `DEC L`, 0x2D (R112). -/
def execDec_L (s : State) : Result := decTarget (.reg .l) s

/-- `CPL`, 0x2F (R114). -/
def execCpl (s : State) : Result := complementA s

/-- `INC (HL)`, 0x34 (R111). -/
def execInc_mHL (s : State) : Result := incTarget .ind s

/-- `DEC (HL)`, 0x35 (R112). -/
def execDec_mHL (s : State) : Result := decTarget .ind s

/-- `SCF`, 0x37 (R115). -/
def execScf (s : State) : Result := setCarry s

/-- `INC A`, 0x3C (R111). -/
def execInc_A (s : State) : Result := incTarget (.reg .a) s

/-- `DEC A`, 0x3D (R112). -/
def execDec_A (s : State) : Result := decTarget (.reg .a) s

/-- `CCF`, 0x3F (R116). -/
def execCcf (s : State) : Result := complementCarry s

/-- `ADD A,B`, 0x80 (R103). -/
def execAdd_A_B (s : State) : Result := aluReg .add .b s

/-- `ADD A,C`, 0x81 (R103). -/
def execAdd_A_C (s : State) : Result := aluReg .add .c s

/-- `ADD A,D`, 0x82 (R103). -/
def execAdd_A_D (s : State) : Result := aluReg .add .d s

/-- `ADD A,E`, 0x83 (R103). -/
def execAdd_A_E (s : State) : Result := aluReg .add .e s

/-- `ADD A,H`, 0x84 (R103). -/
def execAdd_A_H (s : State) : Result := aluReg .add .h s

/-- `ADD A,L`, 0x85 (R103). -/
def execAdd_A_L (s : State) : Result := aluReg .add .l s

/-- `ADD A,(HL)`, 0x86 (R103). -/
def execAdd_A_mHL (s : State) : Result := aluInd .add s

/-- `ADD A,A`, 0x87 (R103). -/
def execAdd_A_A (s : State) : Result := aluReg .add .a s

/-- `ADC A,B`, 0x88 (R104). -/
def execAdc_A_B (s : State) : Result := aluReg .adc .b s

/-- `ADC A,C`, 0x89 (R104). -/
def execAdc_A_C (s : State) : Result := aluReg .adc .c s

/-- `ADC A,D`, 0x8A (R104). -/
def execAdc_A_D (s : State) : Result := aluReg .adc .d s

/-- `ADC A,E`, 0x8B (R104). -/
def execAdc_A_E (s : State) : Result := aluReg .adc .e s

/-- `ADC A,H`, 0x8C (R104). -/
def execAdc_A_H (s : State) : Result := aluReg .adc .h s

/-- `ADC A,L`, 0x8D (R104). -/
def execAdc_A_L (s : State) : Result := aluReg .adc .l s

/-- `ADC A,(HL)`, 0x8E (R104). -/
def execAdc_A_mHL (s : State) : Result := aluInd .adc s

/-- `ADC A,A`, 0x8F (R104). -/
def execAdc_A_A (s : State) : Result := aluReg .adc .a s

/-- `SUB B`, 0x90 (R105). -/
def execSub_B (s : State) : Result := aluReg .sub .b s

/-- `SUB C`, 0x91 (R105). -/
def execSub_C (s : State) : Result := aluReg .sub .c s

/-- `SUB D`, 0x92 (R105). -/
def execSub_D (s : State) : Result := aluReg .sub .d s

/-- `SUB E`, 0x93 (R105). -/
def execSub_E (s : State) : Result := aluReg .sub .e s

/-- `SUB H`, 0x94 (R105). -/
def execSub_H (s : State) : Result := aluReg .sub .h s

/-- `SUB L`, 0x95 (R105). -/
def execSub_L (s : State) : Result := aluReg .sub .l s

/-- `SUB (HL)`, 0x96 (R105). -/
def execSub_mHL (s : State) : Result := aluInd .sub s

/-- `SUB A`, 0x97 (R105). -/
def execSub_A (s : State) : Result := aluReg .sub .a s

/-- `SBC A,B`, 0x98 (R106). -/
def execSbc_A_B (s : State) : Result := aluReg .sbc .b s

/-- `SBC A,C`, 0x99 (R106). -/
def execSbc_A_C (s : State) : Result := aluReg .sbc .c s

/-- `SBC A,D`, 0x9A (R106). -/
def execSbc_A_D (s : State) : Result := aluReg .sbc .d s

/-- `SBC A,E`, 0x9B (R106). -/
def execSbc_A_E (s : State) : Result := aluReg .sbc .e s

/-- `SBC A,H`, 0x9C (R106). -/
def execSbc_A_H (s : State) : Result := aluReg .sbc .h s

/-- `SBC A,L`, 0x9D (R106). -/
def execSbc_A_L (s : State) : Result := aluReg .sbc .l s

/-- `SBC A,(HL)`, 0x9E (R106). -/
def execSbc_A_mHL (s : State) : Result := aluInd .sbc s

/-- `SBC A,A`, 0x9F (R106). -/
def execSbc_A_A (s : State) : Result := aluReg .sbc .a s

/-- `AND B`, 0xA0 (R107). -/
def execAnd_B (s : State) : Result := aluReg .and .b s

/-- `AND C`, 0xA1 (R107). -/
def execAnd_C (s : State) : Result := aluReg .and .c s

/-- `AND D`, 0xA2 (R107). -/
def execAnd_D (s : State) : Result := aluReg .and .d s

/-- `AND E`, 0xA3 (R107). -/
def execAnd_E (s : State) : Result := aluReg .and .e s

/-- `AND H`, 0xA4 (R107). -/
def execAnd_H (s : State) : Result := aluReg .and .h s

/-- `AND L`, 0xA5 (R107). -/
def execAnd_L (s : State) : Result := aluReg .and .l s

/-- `AND (HL)`, 0xA6 (R107). -/
def execAnd_mHL (s : State) : Result := aluInd .and s

/-- `AND A`, 0xA7 (R107). -/
def execAnd_A (s : State) : Result := aluReg .and .a s

/-- `XOR B`, 0xA8 (R108). -/
def execXor_B (s : State) : Result := aluReg .xor .b s

/-- `XOR C`, 0xA9 (R108). -/
def execXor_C (s : State) : Result := aluReg .xor .c s

/-- `XOR D`, 0xAA (R108). -/
def execXor_D (s : State) : Result := aluReg .xor .d s

/-- `XOR E`, 0xAB (R108). -/
def execXor_E (s : State) : Result := aluReg .xor .e s

/-- `XOR H`, 0xAC (R108). -/
def execXor_H (s : State) : Result := aluReg .xor .h s

/-- `XOR L`, 0xAD (R108). -/
def execXor_L (s : State) : Result := aluReg .xor .l s

/-- `XOR (HL)`, 0xAE (R108). -/
def execXor_mHL (s : State) : Result := aluInd .xor s

/-- `XOR A`, 0xAF (R108). -/
def execXor_A (s : State) : Result := aluReg .xor .a s

/-- `OR B`, 0xB0 (R109). -/
def execOr_B (s : State) : Result := aluReg .or .b s

/-- `OR C`, 0xB1 (R109). -/
def execOr_C (s : State) : Result := aluReg .or .c s

/-- `OR D`, 0xB2 (R109). -/
def execOr_D (s : State) : Result := aluReg .or .d s

/-- `OR E`, 0xB3 (R109). -/
def execOr_E (s : State) : Result := aluReg .or .e s

/-- `OR H`, 0xB4 (R109). -/
def execOr_H (s : State) : Result := aluReg .or .h s

/-- `OR L`, 0xB5 (R109). -/
def execOr_L (s : State) : Result := aluReg .or .l s

/-- `OR (HL)`, 0xB6 (R109). -/
def execOr_mHL (s : State) : Result := aluInd .or s

/-- `OR A`, 0xB7 (R109). -/
def execOr_A (s : State) : Result := aluReg .or .a s

/-- `CP B`, 0xB8 (R110). -/
def execCp_B (s : State) : Result := aluReg .cp .b s

/-- `CP C`, 0xB9 (R110). -/
def execCp_C (s : State) : Result := aluReg .cp .c s

/-- `CP D`, 0xBA (R110). -/
def execCp_D (s : State) : Result := aluReg .cp .d s

/-- `CP E`, 0xBB (R110). -/
def execCp_E (s : State) : Result := aluReg .cp .e s

/-- `CP H`, 0xBC (R110). -/
def execCp_H (s : State) : Result := aluReg .cp .h s

/-- `CP L`, 0xBD (R110). -/
def execCp_L (s : State) : Result := aluReg .cp .l s

/-- `CP (HL)`, 0xBE (R110). -/
def execCp_mHL (s : State) : Result := aluInd .cp s

/-- `CP A`, 0xBF (R110). -/
def execCp_A (s : State) : Result := aluReg .cp .a s

/-- `ADD A,d8`, 0xC6 (R103). -/
def execAdd_A_d8 (d8 : Byte) (s : State) : Result := aluImm .add d8 s

/-- `ADC A,d8`, 0xCE (R104). -/
def execAdc_A_d8 (d8 : Byte) (s : State) : Result := aluImm .adc d8 s

/-- `SUB d8`, 0xD6 (R105). -/
def execSub_d8 (d8 : Byte) (s : State) : Result := aluImm .sub d8 s

/-- `SBC A,d8`, 0xDE (R106). -/
def execSbc_A_d8 (d8 : Byte) (s : State) : Result := aluImm .sbc d8 s

/-- `AND d8`, 0xE6 (R107). -/
def execAnd_d8 (d8 : Byte) (s : State) : Result := aluImm .and d8 s

/-- `XOR d8`, 0xEE (R108). -/
def execXor_d8 (d8 : Byte) (s : State) : Result := aluImm .xor d8 s

/-- `OR d8`, 0xF6 (R109). -/
def execOr_d8 (d8 : Byte) (s : State) : Result := aluImm .or d8 s

/-- `CP d8`, 0xFE (R110). -/
def execCp_d8 (d8 : Byte) (s : State) : Result := aluImm .cp d8 s

end Sys2Proof.Machine
end

