-- ==== Sys2Proof/Machine/RotateShift.lean ====
section
/-! DEFINITION. The rotates, shifts and swap (42_rotate_shift.md, R140 to R153). -/

namespace Sys2Proof.Machine

/-- A secondary rule runs only where its selector is wired; otherwise the step takes the fault of R84, and no part of
the rule happens (R228). -/
def onWired (op2 : Byte) (rule : State → State) (s : State) : Result :=
  .next (if s.cfg.implements op2 then rule s else s.latchUnimplemented op2)

/-- The selector of a rotate, shift or swap kind (R79). -/
def rotCode : RotKind → BitVec 3
  | .rlc => 0 | .rrc => 1 | .rl => 2 | .rr => 3 | .sla => 4 | .sra => 5 | .swap => 6 | .srl => 7

/-- `RotOp(kind)` on a target (R141). -/
def State.rotOp (s : State) (kind : RotKind) (t : Target8) : State :=
  let m := s.readTarget t
  let r := rot8 kind m.1 (s.flag .c)
  (m.2.writeTarget t r.1).setZnhc (r.1 == 0) false false r.2

/-- A secondary rotate, shift or swap (R140, R146 to R153). -/
def rotTarget (kind : RotKind) (t : Target8) (s : State) : Result :=
  onWired (opByte 0 (rotCode kind) (targetCode t)) (fun s => s.rotOp kind t) s

/-- An accumulator short form: `Zf` is always cleared (R141 to R145). -/
def rotateA (kind : RotKind) (s : State) : Result :=
  let r := rot8 kind s.a (s.flag .c)
  .next ({ s with a := r.1 }.setZnhc false false false r.2)

/-- `RLCA`, 0x07 (R142). -/
def execRlca (s : State) : Result := rotateA .rlc s

/-- `RRCA`, 0x0F (R143). -/
def execRrca (s : State) : Result := rotateA .rrc s

/-- `RLA`, 0x17 (R144). -/
def execRla (s : State) : Result := rotateA .rl s

/-- `RRA`, 0x1F (R145). -/
def execRra (s : State) : Result := rotateA .rr s

/-- `RLC r`, 0xCB 0x00 (R146). -/
def execRlc_r (r : Reg8) (s : State) : Result := rotTarget .rlc (.reg r) s

/-- `RLC (HL)`, 0xCB 0x06 (R146). -/
def execRlc_mHL (s : State) : Result := rotTarget .rlc .ind s

/-- `RRC r`, 0xCB 0x08 (R147). -/
def execRrc_r (r : Reg8) (s : State) : Result := rotTarget .rrc (.reg r) s

/-- `RRC (HL)`, 0xCB 0x0E (R147). -/
def execRrc_mHL (s : State) : Result := rotTarget .rrc .ind s

/-- `RL r`, 0xCB 0x10 (R148). -/
def execRl_r (r : Reg8) (s : State) : Result := rotTarget .rl (.reg r) s

/-- `RL (HL)`, 0xCB 0x16 (R148). -/
def execRl_mHL (s : State) : Result := rotTarget .rl .ind s

/-- `RR r`, 0xCB 0x18 (R149). -/
def execRr_r (r : Reg8) (s : State) : Result := rotTarget .rr (.reg r) s

/-- `RR (HL)`, 0xCB 0x1E (R149). -/
def execRr_mHL (s : State) : Result := rotTarget .rr .ind s

/-- `SLA r`, 0xCB 0x20 (R150). -/
def execSla_r (r : Reg8) (s : State) : Result := rotTarget .sla (.reg r) s

/-- `SLA (HL)`, 0xCB 0x26 (R150). -/
def execSla_mHL (s : State) : Result := rotTarget .sla .ind s

/-- `SRA r`, 0xCB 0x28 (R151). -/
def execSra_r (r : Reg8) (s : State) : Result := rotTarget .sra (.reg r) s

/-- `SRA (HL)`, 0xCB 0x2E (R151). -/
def execSra_mHL (s : State) : Result := rotTarget .sra .ind s

/-- `SWAP r`, 0xCB 0x30 (R152). -/
def execSwap_r (r : Reg8) (s : State) : Result := rotTarget .swap (.reg r) s

/-- `SWAP (HL)`, 0xCB 0x36 (R152). -/
def execSwap_mHL (s : State) : Result := rotTarget .swap .ind s

/-- `SRL r`, 0xCB 0x38 (R153). -/
def execSrl_r (r : Reg8) (s : State) : Result := rotTarget .srl (.reg r) s

/-- `SRL (HL)`, 0xCB 0x3E (R153). -/
def execSrl_mHL (s : State) : Result := rotTarget .srl .ind s

end Sys2Proof.Machine
end

