-- ==== Sys2Proof/Machine/Bit.lean ====
section
/-! DEFINITION. Bit test, reset and set (43_bit.md, R160 to R166). -/

namespace Sys2Proof.Machine

/-- `BIT b,t`: the tested bit goes to `Zf` inverted; `Cf` keeps its value (R161, R162). -/
def State.testBit (s : State) (b : BitVec 3) (t : Target8) : State :=
  let m := s.readTarget t
  m.2.setZnh (!m.1.getLsbD b.toNat) false true

/-- `RES b,t`: the write happens even when the byte does not change (R163, R164). -/
def State.clearBit (s : State) (b : BitVec 3) (t : Target8) : State :=
  let m := s.readTarget t
  m.2.writeTarget t (resetBit b m.1)

/-- `SET b,t`: the write happens even when the byte does not change (R165, R166). -/
def State.raiseBit (s : State) (b : BitVec 3) (t : Target8) : State :=
  let m := s.readTarget t
  m.2.writeTarget t (setBitOn b m.1)

/-- `BIT b,t` where its selector is wired (R79, R161, R162). -/
def bitTarget (b : BitVec 3) (t : Target8) (s : State) : Result :=
  onWired (opByte 1 b (targetCode t)) (fun s => s.testBit b t) s

/-- `RES b,t` where its selector is wired (R79, R163, R164). -/
def resTarget (b : BitVec 3) (t : Target8) (s : State) : Result :=
  onWired (opByte 2 b (targetCode t)) (fun s => s.clearBit b t) s

/-- `SET b,t` where its selector is wired (R79, R165, R166). -/
def setTarget (b : BitVec 3) (t : Target8) (s : State) : Result :=
  onWired (opByte 3 b (targetCode t)) (fun s => s.raiseBit b t) s

/-- `BIT b,r`, 0xCB 0x40 (R161). -/
def execBit_b_r (b : BitVec 3) (r : Reg8) (s : State) : Result := bitTarget b (.reg r) s

/-- `BIT b,(HL)`, 0xCB 0x46 (R162). -/
def execBit_b_mHL (b : BitVec 3) (s : State) : Result := bitTarget b .ind s

/-- `RES b,r`, 0xCB 0x80 (R163). -/
def execRes_b_r (b : BitVec 3) (r : Reg8) (s : State) : Result := resTarget b (.reg r) s

/-- `RES b,(HL)`, 0xCB 0x86 (R164). -/
def execRes_b_mHL (b : BitVec 3) (s : State) : Result := resTarget b .ind s

/-- `SET b,r`, 0xCB 0xC0 (R165). -/
def execSet_b_r (b : BitVec 3) (r : Reg8) (s : State) : Result := setTarget b (.reg r) s

/-- `SET b,(HL)`, 0xCB 0xC6 (R166). -/
def execSet_b_mHL (b : BitVec 3) (s : State) : Result := setTarget b .ind s

end Sys2Proof.Machine
end

