-- ==== Sys2Proof/Machine/Control.lean ====
section
/-! DEFINITION. The control transfers (44_control.md, R170 to R184). `PC` is already past the whole instruction, so it
is the return address a call pushes and the base of a relative jump. -/

namespace Sys2Proof.Machine

/-- `PC <- target` (R9). -/
def State.jump (s : State) (target : Word) : State := { s with pc := target }

/-- The target of a relative jump, modulo 2^16 (R73, R175). -/
def State.relTarget (s : State) (e8 : Byte) : Word := s.pc + sext16 e8

/-- `Push16(PC); PC <- target` (R177, R182). -/
def State.call (s : State) (target : Word) : State := (s.push16 s.pc).jump target

/-- `PC <- Pop16()` (R179). -/
def State.popPc (s : State) : State :=
  let p := s.pop16
  p.2.jump p.1

/-- A conditional transfer: taken, it happens and carries its surcharge; not taken, nothing happens (R171). -/
def branchIf (cc : Cond) (kind : BranchKind) (transfer : State → State) (s : State) : Result :=
  .next (if s.cond cc then (transfer s).takeBranch kind else s)

/-- `JP a16` (R172). -/
def jumpAbs (a16 : Word) (s : State) : Result := .next (s.jump a16)

/-- `JP cc,a16` (R173). -/
def jumpAbsIf (cc : Cond) (a16 : Word) (s : State) : Result := branchIf cc .jp (fun s => s.jump a16) s

/-- `JP HL` (R174). -/
def jumpHl (s : State) : Result := .next (s.jump s.hl)

/-- `JR e8` (R175). -/
def jumpRel (e8 : Byte) (s : State) : Result := .next (s.jump (s.relTarget e8))

/-- `JR cc,e8` (R176). -/
def jumpRelIf (cc : Cond) (e8 : Byte) (s : State) : Result := branchIf cc .jr (fun s => s.jump (s.relTarget e8)) s

/-- `CALL a16` (R177). -/
def callAbs (a16 : Word) (s : State) : Result := .next (s.call a16)

/-- `CALL cc,a16` (R178). -/
def callAbsIf (cc : Cond) (a16 : Word) (s : State) : Result := branchIf cc .call (fun s => s.call a16) s

/-- `RET` (R179). -/
def ret (s : State) : Result := .next s.popPc

/-- `RET cc` (R180). -/
def retIf (cc : Cond) (s : State) : Result := branchIf cc .ret State.popPc s

/-- `RST n` at target `n` (R182). -/
def restart (target : Word) (s : State) : Result := .next (s.call target)

/-- `JR e8`, 0x18 (R175). -/
def execJr_e8 (e8 : Byte) (s : State) : Result := jumpRel e8 s

/-- `JR NZ,e8`, 0x20 (R176). -/
def execJr_NZ_e8 (e8 : Byte) (s : State) : Result := jumpRelIf .nz e8 s

/-- `JR Z,e8`, 0x28 (R176). -/
def execJr_Z_e8 (e8 : Byte) (s : State) : Result := jumpRelIf .z e8 s

/-- `JR NC,e8`, 0x30 (R176). -/
def execJr_NC_e8 (e8 : Byte) (s : State) : Result := jumpRelIf .nc e8 s

/-- `JR C,e8`, 0x38 (R176). -/
def execJr_C_e8 (e8 : Byte) (s : State) : Result := jumpRelIf .c e8 s

/-- `RET NZ`, 0xC0 (R180). -/
def execRet_NZ (s : State) : Result := retIf .nz s

/-- `JP NZ,a16`, 0xC2 (R173). -/
def execJp_NZ_a16 (a16 : Word) (s : State) : Result := jumpAbsIf .nz a16 s

/-- `JP a16`, 0xC3 (R172). -/
def execJp_a16 (a16 : Word) (s : State) : Result := jumpAbs a16 s

/-- `CALL NZ,a16`, 0xC4 (R178). -/
def execCall_NZ_a16 (a16 : Word) (s : State) : Result := callAbsIf .nz a16 s

/-- `RST 0x00`, 0xC7 (R182). -/
def execRst_00 (s : State) : Result := restart 0x00 s

/-- `RET Z`, 0xC8 (R180). -/
def execRet_Z (s : State) : Result := retIf .z s

/-- `RET`, 0xC9 (R179). -/
def execRet (s : State) : Result := ret s

/-- `JP Z,a16`, 0xCA (R173). -/
def execJp_Z_a16 (a16 : Word) (s : State) : Result := jumpAbsIf .z a16 s

/-- `CALL Z,a16`, 0xCC (R178). -/
def execCall_Z_a16 (a16 : Word) (s : State) : Result := callAbsIf .z a16 s

/-- `CALL a16`, 0xCD (R177). -/
def execCall_a16 (a16 : Word) (s : State) : Result := callAbs a16 s

/-- `RST 0x08`, 0xCF (R182). -/
def execRst_08 (s : State) : Result := restart 0x08 s

/-- `RET NC`, 0xD0 (R180). -/
def execRet_NC (s : State) : Result := retIf .nc s

/-- `JP NC,a16`, 0xD2 (R173). -/
def execJp_NC_a16 (a16 : Word) (s : State) : Result := jumpAbsIf .nc a16 s

/-- `CALL NC,a16`, 0xD4 (R178). -/
def execCall_NC_a16 (a16 : Word) (s : State) : Result := callAbsIf .nc a16 s

/-- `RST 0x10`, 0xD7 (R182). -/
def execRst_10 (s : State) : Result := restart 0x10 s

/-- `RET C`, 0xD8 (R180). -/
def execRet_C (s : State) : Result := retIf .c s

/-- `RETI`, 0xD9 (R181). -/
def execReti (s : State) : Result := .next s.returnFromDivert

/-- `JP C,a16`, 0xDA (R173). -/
def execJp_C_a16 (a16 : Word) (s : State) : Result := jumpAbsIf .c a16 s

/-- `CALL C,a16`, 0xDC (R178). -/
def execCall_C_a16 (a16 : Word) (s : State) : Result := callAbsIf .c a16 s

/-- `RST 0x18`, 0xDF (R182). -/
def execRst_18 (s : State) : Result := restart 0x18 s

/-- `RST 0x20`, 0xE7 (R182). -/
def execRst_20 (s : State) : Result := restart 0x20 s

/-- `JP HL`, 0xE9 (R174). -/
def execJp_HL (s : State) : Result := jumpHl s

/-- `RST 0x28`, 0xEF (R182). -/
def execRst_28 (s : State) : Result := restart 0x28 s

/-- `RST 0x30`, 0xF7 (R182). -/
def execRst_30 (s : State) : Result := restart 0x30 s

/-- `RST 0x38`, 0xFF (R182). -/
def execRst_38 (s : State) : Result := restart 0x38 s

end Sys2Proof.Machine
end

