-- ==== Sys2Proof/Machine/LoadStore.lean ====
section
/-! DEFINITION. The loads, stores and stack moves (45_load_store.md, R190 to R214). No rule of the family writes a flag
except `POP AF`. -/

namespace Sys2Proof.Machine

/-- `LD r,r'` (R191). -/
def loadReg (dst src : Reg8) (s : State) : Result := .next (s.setReg8 dst (s.reg8 src))

/-- `LD r,d8` (R192). -/
def loadImm (dst : Reg8) (d8 : Byte) (s : State) : Result := .next (s.setReg8 dst d8)

/-- `LD r,(HL)` (R193). -/
def loadInd (dst : Reg8) (s : State) : Result :=
  let m := s.memRead s.hl
  .next (m.2.setReg8 dst m.1)

/-- One byte stored at an address. -/
def storeAt (addr : Word) (v : Byte) (s : State) : Result := .next (s.memWrite addr v)

/-- `LD (HL),r` (R194). -/
def storeInd (r : Reg8) (s : State) : Result := storeAt s.hl (s.reg8 r) s

/-- `A` loaded from an address. -/
def loadAFrom (addr : Word) (s : State) : Result :=
  let m := s.memRead addr
  .next { m.2 with a := m.1 }

/-- `A` loaded from the byte at `HL`, then `HL` moved by `step` modulo 2^16 (R198, R199). -/
def loadAHlStep (step : Word) (s : State) : Result :=
  let m := s.memRead s.hl
  .next ({ m.2 with a := m.1 }.setHl (s.hl + step))

/-- `A` stored to the byte at `HL`, then `HL` moved by `step` modulo 2^16 (R200, R201). -/
def storeAHlStep (step : Word) (s : State) : Result := .next ((s.memWrite s.hl s.a).setHl (s.hl + step))

/-- `LD rr,d16` (R208). -/
def loadImm16 (p : Reg16) (d16 : Word) (s : State) : Result := .next (s.setReg16 p d16)

/-- `PUSH qq` (R211, R212). -/
def pushReg (q : StackReg) (s : State) : Result := .next (s.push16 (s.stackReg q))

/-- `POP qq` (R213, R214). -/
def popReg (q : StackReg) (s : State) : Result :=
  let p := s.pop16
  .next (p.2.setStackReg q p.1)

/-- `LD BC,d16`, 0x01 (R208). -/
def execLd_BC_d16 (d16 : Word) (s : State) : Result := loadImm16 .bc d16 s

/-- `LD (BC),A`, 0x02 (R197). -/
def execLd_mBC_A (s : State) : Result := storeAt s.bc s.a s

/-- `LD B,d8`, 0x06 (R192). -/
def execLd_B_d8 (d8 : Byte) (s : State) : Result := loadImm .b d8 s

/-- `LD (a16),SP`, 0x08 (R209). -/
def execLd_ma16_SP (a16 : Word) (s : State) : Result := .next (s.write16 a16 s.sp)

/-- `LD A,(BC)`, 0x0A (R196). -/
def execLd_A_mBC (s : State) : Result := loadAFrom s.bc s

/-- `LD C,d8`, 0x0E (R192). -/
def execLd_C_d8 (d8 : Byte) (s : State) : Result := loadImm .c d8 s

/-- `LD DE,d16`, 0x11 (R208). -/
def execLd_DE_d16 (d16 : Word) (s : State) : Result := loadImm16 .de d16 s

/-- `LD (DE),A`, 0x12 (R197). -/
def execLd_mDE_A (s : State) : Result := storeAt s.de s.a s

/-- `LD D,d8`, 0x16 (R192). -/
def execLd_D_d8 (d8 : Byte) (s : State) : Result := loadImm .d d8 s

/-- `LD A,(DE)`, 0x1A (R196). -/
def execLd_A_mDE (s : State) : Result := loadAFrom s.de s

/-- `LD E,d8`, 0x1E (R192). -/
def execLd_E_d8 (d8 : Byte) (s : State) : Result := loadImm .e d8 s

/-- `LD HL,d16`, 0x21 (R208). -/
def execLd_HL_d16 (d16 : Word) (s : State) : Result := loadImm16 .hl d16 s

/-- `LD (HL+),A`, 0x22 (R200). -/
def execLd_mHLi_A (s : State) : Result := storeAHlStep 1 s

/-- `LD H,d8`, 0x26 (R192). -/
def execLd_H_d8 (d8 : Byte) (s : State) : Result := loadImm .h d8 s

/-- `LD A,(HL+)`, 0x2A (R198). -/
def execLd_A_mHLi (s : State) : Result := loadAHlStep 1 s

/-- `LD L,d8`, 0x2E (R192). -/
def execLd_L_d8 (d8 : Byte) (s : State) : Result := loadImm .l d8 s

/-- `LD SP,d16`, 0x31 (R208). -/
def execLd_SP_d16 (d16 : Word) (s : State) : Result := loadImm16 .sp d16 s

/-- `LD (HL-),A`, 0x32 (R201). -/
def execLd_mHLd_A (s : State) : Result := storeAHlStep (-1) s

/-- `LD (HL),d8`, 0x36 (R195). -/
def execLd_mHL_d8 (d8 : Byte) (s : State) : Result := storeAt s.hl d8 s

/-- `LD A,(HL-)`, 0x3A (R199). -/
def execLd_A_mHLd (s : State) : Result := loadAHlStep (-1) s

/-- `LD A,d8`, 0x3E (R192). -/
def execLd_A_d8 (d8 : Byte) (s : State) : Result := loadImm .a d8 s

/-- `LD B,B`, 0x40 (R191). -/
def execLd_B_B (s : State) : Result := loadReg .b .b s

/-- `LD B,C`, 0x41 (R191). -/
def execLd_B_C (s : State) : Result := loadReg .b .c s

/-- `LD B,D`, 0x42 (R191). -/
def execLd_B_D (s : State) : Result := loadReg .b .d s

/-- `LD B,E`, 0x43 (R191). -/
def execLd_B_E (s : State) : Result := loadReg .b .e s

/-- `LD B,H`, 0x44 (R191). -/
def execLd_B_H (s : State) : Result := loadReg .b .h s

/-- `LD B,L`, 0x45 (R191). -/
def execLd_B_L (s : State) : Result := loadReg .b .l s

/-- `LD B,(HL)`, 0x46 (R193). -/
def execLd_B_mHL (s : State) : Result := loadInd .b s

/-- `LD B,A`, 0x47 (R191). -/
def execLd_B_A (s : State) : Result := loadReg .b .a s

/-- `LD C,B`, 0x48 (R191). -/
def execLd_C_B (s : State) : Result := loadReg .c .b s

/-- `LD C,C`, 0x49 (R191). -/
def execLd_C_C (s : State) : Result := loadReg .c .c s

/-- `LD C,D`, 0x4A (R191). -/
def execLd_C_D (s : State) : Result := loadReg .c .d s

/-- `LD C,E`, 0x4B (R191). -/
def execLd_C_E (s : State) : Result := loadReg .c .e s

/-- `LD C,H`, 0x4C (R191). -/
def execLd_C_H (s : State) : Result := loadReg .c .h s

/-- `LD C,L`, 0x4D (R191). -/
def execLd_C_L (s : State) : Result := loadReg .c .l s

/-- `LD C,(HL)`, 0x4E (R193). -/
def execLd_C_mHL (s : State) : Result := loadInd .c s

/-- `LD C,A`, 0x4F (R191). -/
def execLd_C_A (s : State) : Result := loadReg .c .a s

/-- `LD D,B`, 0x50 (R191). -/
def execLd_D_B (s : State) : Result := loadReg .d .b s

/-- `LD D,C`, 0x51 (R191). -/
def execLd_D_C (s : State) : Result := loadReg .d .c s

/-- `LD D,D`, 0x52 (R191). -/
def execLd_D_D (s : State) : Result := loadReg .d .d s

/-- `LD D,E`, 0x53 (R191). -/
def execLd_D_E (s : State) : Result := loadReg .d .e s

/-- `LD D,H`, 0x54 (R191). -/
def execLd_D_H (s : State) : Result := loadReg .d .h s

/-- `LD D,L`, 0x55 (R191). -/
def execLd_D_L (s : State) : Result := loadReg .d .l s

/-- `LD D,(HL)`, 0x56 (R193). -/
def execLd_D_mHL (s : State) : Result := loadInd .d s

/-- `LD D,A`, 0x57 (R191). -/
def execLd_D_A (s : State) : Result := loadReg .d .a s

/-- `LD E,B`, 0x58 (R191). -/
def execLd_E_B (s : State) : Result := loadReg .e .b s

/-- `LD E,C`, 0x59 (R191). -/
def execLd_E_C (s : State) : Result := loadReg .e .c s

/-- `LD E,D`, 0x5A (R191). -/
def execLd_E_D (s : State) : Result := loadReg .e .d s

/-- `LD E,E`, 0x5B (R191). -/
def execLd_E_E (s : State) : Result := loadReg .e .e s

/-- `LD E,H`, 0x5C (R191). -/
def execLd_E_H (s : State) : Result := loadReg .e .h s

/-- `LD E,L`, 0x5D (R191). -/
def execLd_E_L (s : State) : Result := loadReg .e .l s

/-- `LD E,(HL)`, 0x5E (R193). -/
def execLd_E_mHL (s : State) : Result := loadInd .e s

/-- `LD E,A`, 0x5F (R191). -/
def execLd_E_A (s : State) : Result := loadReg .e .a s

/-- `LD H,B`, 0x60 (R191). -/
def execLd_H_B (s : State) : Result := loadReg .h .b s

/-- `LD H,C`, 0x61 (R191). -/
def execLd_H_C (s : State) : Result := loadReg .h .c s

/-- `LD H,D`, 0x62 (R191). -/
def execLd_H_D (s : State) : Result := loadReg .h .d s

/-- `LD H,E`, 0x63 (R191). -/
def execLd_H_E (s : State) : Result := loadReg .h .e s

/-- `LD H,H`, 0x64 (R191). -/
def execLd_H_H (s : State) : Result := loadReg .h .h s

/-- `LD H,L`, 0x65 (R191). -/
def execLd_H_L (s : State) : Result := loadReg .h .l s

/-- `LD H,(HL)`, 0x66 (R193). -/
def execLd_H_mHL (s : State) : Result := loadInd .h s

/-- `LD H,A`, 0x67 (R191). -/
def execLd_H_A (s : State) : Result := loadReg .h .a s

/-- `LD L,B`, 0x68 (R191). -/
def execLd_L_B (s : State) : Result := loadReg .l .b s

/-- `LD L,C`, 0x69 (R191). -/
def execLd_L_C (s : State) : Result := loadReg .l .c s

/-- `LD L,D`, 0x6A (R191). -/
def execLd_L_D (s : State) : Result := loadReg .l .d s

/-- `LD L,E`, 0x6B (R191). -/
def execLd_L_E (s : State) : Result := loadReg .l .e s

/-- `LD L,H`, 0x6C (R191). -/
def execLd_L_H (s : State) : Result := loadReg .l .h s

/-- `LD L,L`, 0x6D (R191). -/
def execLd_L_L (s : State) : Result := loadReg .l .l s

/-- `LD L,(HL)`, 0x6E (R193). -/
def execLd_L_mHL (s : State) : Result := loadInd .l s

/-- `LD L,A`, 0x6F (R191). -/
def execLd_L_A (s : State) : Result := loadReg .l .a s

/-- `LD (HL),B`, 0x70 (R194). -/
def execLd_mHL_B (s : State) : Result := storeInd .b s

/-- `LD (HL),C`, 0x71 (R194). -/
def execLd_mHL_C (s : State) : Result := storeInd .c s

/-- `LD (HL),D`, 0x72 (R194). -/
def execLd_mHL_D (s : State) : Result := storeInd .d s

/-- `LD (HL),E`, 0x73 (R194). -/
def execLd_mHL_E (s : State) : Result := storeInd .e s

/-- `LD (HL),H`, 0x74 (R194). -/
def execLd_mHL_H (s : State) : Result := storeInd .h s

/-- `LD (HL),L`, 0x75 (R194). -/
def execLd_mHL_L (s : State) : Result := storeInd .l s

/-- `LD (HL),A`, 0x77 (R194). -/
def execLd_mHL_A (s : State) : Result := storeInd .a s

/-- `LD A,B`, 0x78 (R191). -/
def execLd_A_B (s : State) : Result := loadReg .a .b s

/-- `LD A,C`, 0x79 (R191). -/
def execLd_A_C (s : State) : Result := loadReg .a .c s

/-- `LD A,D`, 0x7A (R191). -/
def execLd_A_D (s : State) : Result := loadReg .a .d s

/-- `LD A,E`, 0x7B (R191). -/
def execLd_A_E (s : State) : Result := loadReg .a .e s

/-- `LD A,H`, 0x7C (R191). -/
def execLd_A_H (s : State) : Result := loadReg .a .h s

/-- `LD A,L`, 0x7D (R191). -/
def execLd_A_L (s : State) : Result := loadReg .a .l s

/-- `LD A,(HL)`, 0x7E (R193). -/
def execLd_A_mHL (s : State) : Result := loadInd .a s

/-- `LD A,A`, 0x7F (R191). -/
def execLd_A_A (s : State) : Result := loadReg .a .a s

/-- `POP BC`, 0xC1 (R213). -/
def execPop_BC (s : State) : Result := popReg .bc s

/-- `PUSH BC`, 0xC5 (R211). -/
def execPush_BC (s : State) : Result := pushReg .bc s

/-- `POP DE`, 0xD1 (R213). -/
def execPop_DE (s : State) : Result := popReg .de s

/-- `PUSH DE`, 0xD5 (R211). -/
def execPush_DE (s : State) : Result := pushReg .de s

/-- `LDH (a8),A`, 0xE0 (R205). -/
def execLdh_ma8_A (a8 : Byte) (s : State) : Result := storeAt (highPageAddr a8) s.a s

/-- `POP HL`, 0xE1 (R213). -/
def execPop_HL (s : State) : Result := popReg .hl s

/-- `LD (C),A`, 0xE2 (R207). -/
def execLd_mC_A (s : State) : Result := storeAt (highPageAddr s.c) s.a s

/-- `PUSH HL`, 0xE5 (R211). -/
def execPush_HL (s : State) : Result := pushReg .hl s

/-- `LD (a16),A`, 0xEA (R203). -/
def execLd_ma16_A (a16 : Word) (s : State) : Result := storeAt a16 s.a s

/-- `LDH A,(a8)`, 0xF0 (R204). -/
def execLdh_A_ma8 (a8 : Byte) (s : State) : Result := loadAFrom (highPageAddr a8) s

/-- `POP AF`, 0xF1 (R214). -/
def execPop_AF (s : State) : Result := popReg .af s

/-- `LD A,(C)`, 0xF2 (R206). -/
def execLd_A_mC (s : State) : Result := loadAFrom (highPageAddr s.c) s

/-- `PUSH AF`, 0xF5 (R212). -/
def execPush_AF (s : State) : Result := pushReg .af s

/-- `LD SP,HL`, 0xF9 (R210). -/
def execLd_SP_HL (s : State) : Result := .next { s with sp := s.hl }

/-- `LD A,(a16)`, 0xFA (R202). -/
def execLd_A_ma16 (a16 : Word) (s : State) : Result := loadAFrom a16 s

end Sys2Proof.Machine
end

