-- ==== Sys2Proof/Machine/System.lean ====
section
/-! DEFINITION. The system instructions, the escape and the illegal code points (46_system.md, R220 to R228). -/

namespace Sys2Proof.Machine

/-- `STOP`: under `STOP_LENGTH = 2` one more byte is fetched and discarded first (R222). -/
def stop (s : State) : Result :=
  let t := if s.cfg.stopTwoBytes then s.fetchByte.2 else s
  .next { t with run := .stopped }

/-- `EI`: at once under `EI_DELAY = false` (R224); under `EI_DELAY = true` it leaves a pending enable unless IME is
already set (R225). -/
def enableInterrupts (s : State) : Result :=
  .next (if s.cfg.eiDelay then (if s.ime then s else { s with imePending := true }) else { s with ime := true })

/-- The secondary rule of selector `op2`, or its fault (R79, R87). -/
def execSecondary (op2 : Byte) (s : State) : Result :=
  pick4 (fieldX op2)
    (rotTarget (rotOfCode (fieldY op2)) (targetOfCode (fieldZ op2)) s)
    (bitTarget (fieldY op2) (targetOfCode (fieldZ op2)) s)
    (resTarget (fieldY op2) (targetOfCode (fieldZ op2)) s)
    (setTarget (fieldY op2) (targetOfCode (fieldZ op2)) s)

/-- The escape, once 0xCB itself has been fetched: the selector is fetched and the secondary rule dispatched (R87, R226). -/
def escape (s : State) : Result := execSecondary s.fetchByte.1 s.fetchByte.2

/-- `NOP`, 0x00 (R220). -/
def execNop (s : State) : Result := .next s

/-- `STOP`, 0x10 (R222). -/
def execStop (s : State) : Result := stop s

/-- `HALT`, 0x76 (R221). -/
def execHalt (s : State) : Result := .next { s with run := .halted }

/-- `PREFIX CB`, 0xCB (R226). -/
def execPrefix_CB (s : State) : Result := escape s

/-- `ILLEGAL_D3`, 0xD3 (R227). -/
def execIllegal_D3 (s : State) : Result := .next (s.latchIllegal 0xD3)

/-- `ILLEGAL_DB`, 0xDB (R227). -/
def execIllegal_DB (s : State) : Result := .next (s.latchIllegal 0xDB)

/-- `ILLEGAL_DD`, 0xDD (R227). -/
def execIllegal_DD (s : State) : Result := .next (s.latchIllegal 0xDD)

/-- `ILLEGAL_E3`, 0xE3 (R227). -/
def execIllegal_E3 (s : State) : Result := .next (s.latchIllegal 0xE3)

/-- `ILLEGAL_E4`, 0xE4 (R227). -/
def execIllegal_E4 (s : State) : Result := .next (s.latchIllegal 0xE4)

/-- `ILLEGAL_EB`, 0xEB (R227). -/
def execIllegal_EB (s : State) : Result := .next (s.latchIllegal 0xEB)

/-- `ILLEGAL_EC`, 0xEC (R227). -/
def execIllegal_EC (s : State) : Result := .next (s.latchIllegal 0xEC)

/-- `ILLEGAL_ED`, 0xED (R227). -/
def execIllegal_ED (s : State) : Result := .next (s.latchIllegal 0xED)

/-- `DI`, 0xF3 (R223). -/
def execDi (s : State) : Result := .next { s with ime := false, imePending := false }

/-- `ILLEGAL_F4`, 0xF4 (R227). -/
def execIllegal_F4 (s : State) : Result := .next (s.latchIllegal 0xF4)

/-- `EI`, 0xFB (R224). -/
def execEi (s : State) : Result := enableInterrupts s

/-- `ILLEGAL_FC`, 0xFC (R227). -/
def execIllegal_FC (s : State) : Result := .next (s.latchIllegal 0xFC)

/-- `ILLEGAL_FD`, 0xFD (R227). -/
def execIllegal_FD (s : State) : Result := .next (s.latchIllegal 0xFD)

end Sys2Proof.Machine
end

