-- ==== Sys2Proof/Machine/Cycle.lean ====
section
/-! DEFINITION. The step of the core (R86): fetch, dispatch and accounting, the idle step (R91), the latched fault (R244),
and the moves of the agents at a step boundary (R249). -/

namespace Sys2Proof.Machine

/-- What the fetch of one instruction leaves: the instruction, its first two bytes (0 where it has one), and the
state with `PC` past its last byte (R28, R86). -/
structure Fetched where
  instr : Instr
  b1 : Byte
  b2 : Byte
  state : State

/-- Fetch the instruction at `PC`: its opcode byte, then exactly the bytes its length asks for, in address order (R56,
R70, R71). -/
def State.fetch (s : State) : Fetched :=
  let m1 := s.fetchByte
  if instrLength m1.1 = 1 then ⟨decodeBytes m1.1 0 0, m1.1, 0, m1.2⟩
  else
    let m2 := m1.2.fetchByte
    if instrLength m1.1 = 2 then ⟨decodeBytes m1.1 m2.1 0, m1.1, m2.1, m2.2⟩
    else
      let m3 := m2.2.fetchByte
      ⟨decodeBytes m1.1 m2.1 m3.1, m1.1, m2.1, m3.2⟩

/-- The end of a step whose instruction ran: the base cost goes to `ticks`, a pending enable that was already pending
when the step began takes effect under `EI_DELAY`, and the step returns `Executed(cost + extra)` (R86, R88, R89, R92). -/
def State.finishStep (s : State) (pend : Bool) (cost : Nat) : State :=
  let t := { s.addTicks cost with ret := some (.executed (cost + s.extra)), extra := 0 }
  if t.cfg.eiDelay && pend && t.imePending then { t with ime := true, imePending := false } else t

/-- The end of a step in state `s`, begun with pending enable `pend`: a fault just latched is returned and nothing is
charged (R83, R84, R243); otherwise the instruction is accounted for. -/
def State.endStep (s : State) (pend : Bool) (cost : Nat) : State :=
  match s.fault with
  | some record => { s with ret := some (.fault record) }
  | none => s.finishStep pend cost

/-- The step of a core that is not running (R91). -/
def State.idleStep (s : State) : State := { s.addTicks idleTicks with ret := some (.idle idleTicks) }

/-- The step of a running core with no fault latched: fetch, run the rule, account (R86). -/
def runStep (s : State) : Result :=
  let fx := s.fetch
  match exec fx.instr fx.state with
  | .next t => .next (t.endStep s.imePending (chargedCost s.cfg fx.b1 fx.b2))
  | .fault r => .fault r
  | .refused r => .refused r

/-- `Step()` (R86). A latched fault is returned again and nothing changes (R244). -/
def coreStep (s : State) : Result :=
  match s.fault with
  | some record => .fault record
  | none => if s.run = .running then runStep s else .next s.idleStep

/-- The ports as a move finds them: no access made yet, no surcharge, nothing returned (R56, R86). -/
def State.beginMove (s : State) : State := { s with bus := [], extra := 0, ret := none }

/-- The state as a step finds it: the collaborator has not acted since this step (R254). -/
def State.beginStep (s : State) : State := { s with acted := false }

/-- One move at a step boundary (R249). -/
def makeMove (m : Move) (s : State) : Result :=
  match m with
  | .step => coreStep s.beginStep
  | .resume => s.resume
  | .divert vector => s.divert vector
  | .reset init => s.externalReset init
  | .memoryChange addr value => s.memoryChange addr value

/-- The next move of the run: the first move of the agenda, and a call of the step when it is empty (R282; log entry 9). -/
def nextMove (s : State) : Result :=
  match s.agenda with
  | [] => makeMove .step s.beginMove
  | m :: rest => makeMove m { s.beginMove with agenda := rest }

/-- The state `s` with an instruction of the opcode table placed where the next step fetches, and the core running with
no fault latched and no outside move due, so that the next step fetches and runs it. -/
def State.placeWord (s : State) (nbits w : Nat) : State :=
  let bytes := tableBytes nbits w
  let m1 := Memory.write s.mem s.pc.toNat bytes.1
  let m2 := Memory.write m1 (s.pc + 1).toNat bytes.2.1
  { s with mem := Memory.write m2 (s.pc + 2).toNat bytes.2.2, run := .running, fault := none, agenda := [] }

end Sys2Proof.Machine
end

