-- ==== Sys2Proof/Machine/Step.lean ====
section
/-! DEFINITION. One move of the machine, and the placing of an instruction for the next step (Machine/Cycle.lean holds
both). -/

namespace Sys2Proof.Machine

/-- One move of the machine: the scheduler's step, or the outside move that is due (R86, R249). -/
def step (s : State) : Host.Outcome State Fault Refusal := nextMove s

/-- `s` with the instruction whose table bits are `w` stored where `step` fetches its next instruction (log entry 16). -/
def State.withFetchWord (s : State) (nbits w : Nat) : State := s.placeWord nbits w

end Sys2Proof.Machine
end

