-- ==== Sys2Proof/Safety.lean ====
section
/-! DEFINITION. What counts as a sound state of the core, and how a run ends (R282), in the terms the claims use. -/

namespace Sys2Proof.Machine

/-- The low nibble of `F` is 0 (R25). -/
abbrev State.FlagLowNibbleZero (s : State) : Prop := s.f &&& 0x0F = 0

/-- The memory is in its canonical form. -/
abbrev State.MemoryCanonical (s : State) : Prop := Memory.wf s.mem = true

/-- A pending enable exists only under `EI_DELAY`, and never beside a set IME (R33, R225). -/
abbrev State.PendingSound (s : State) : Prop :=
  s.imePending = true → s.cfg.eiDelay = true ∧ s.ime = false

/-- A latched record is one the dispatch rules can set: its bytes are those that fault, `pc0` is where they stand, and
`PC` is just past them (R32, R241). -/
def State.LatchSound (s : State) : Prop :=
  match s.fault with
  | none => True
  | some (.illegalOpcode pc0 bytes) => ∃ b1 ∈ illegalSet, bytes = [b1] ∧ s.pc = pc0 + 1
  | some (.unimplementedOpcode pc0 bytes) =>
    ∃ op2, bytes = [0xCB, op2] ∧ s.cfg.implements op2 = false ∧ s.pc = pc0 + 2

/-- The surcharge variable is clear between moves (R86: `extra <- 0`). -/
abbrev State.NoSurchargeLeft (s : State) : Prop := s.extra = 0

/-- A run that has ended Faulted: never a successful end (R244, R282). -/
abbrev State.Faulted (s : State) : Prop := s.fault ≠ none

/-- Whether the moves up to the next external reset, which begins a new run (R274), hold no action of the
interrupt-dispatch collaborator. -/
def noActionDue : List Move → Bool
  | [] => true
  | .reset _ :: _ => true
  | .resume :: _ => false
  | .divert _ :: _ => false
  | .step :: rest => noActionDue rest
  | .memoryChange _ _ :: rest => noActionDue rest

/-- A run that has ended quiescent: the core is halted or stopped, with no fault, and the collaborator takes no further
action in this run (R282). -/
abbrev State.Quiescent (s : State) : Prop := s.fault = none ∧ s.run ≠ .running ∧ noActionDue s.agenda = true

end Sys2Proof.Machine
end

