-- ==== Sys2Proof/Certificates/Slice0/Obligations.lean ====
section
/-! DEFINITION. The statements about the machine, from the numbered rules of spec/. A meaning starts from the state in
which its instruction's bytes have been fetched (R86, R11): `PC` is past them and `bus` holds their reads. The words
that come first say the parts of R11's template once: the encoding, the cost and the effect of a row. -/

namespace Sys2Proof.Claims

open Sys2Proof Sys2Proof.Machine

/-- `F` with the four flags given and the rest of the byte kept (R23: `F = Zf*0x80 | Nf*0x40 | Hf*0x20 | Cf*0x10`). -/
def flagsOver (f : Byte) (z n h c : Bool) : Byte :=
  (f &&& 0x0F) ||| (if z then 0x80 else 0) ||| (if n then 0x40 else 0) ||| (if h then 0x20 else 0) ||| (if c then 0x10 else 0)

/-- The state with the four flags written. -/
def withFlags (s : State) (z n h c : Bool) : State := { s with f := flagsOver s.f z n h c }

/-- `Zf`, `Nf`, `Hf`, `Cf` as bits of `F` (R23). -/
def zf (s : State) : Bool := s.f.getLsbD 7
def nf (s : State) : Bool := s.f.getLsbD 6
def hf (s : State) : Bool := s.f.getLsbD 5
def cf (s : State) : Bool := s.f.getLsbD 4

/-- The state after one byte read at `addr` (R50). -/
def afterRead (s : State) (addr : Word) : State := { s with bus := s.bus ++ [.read addr (s.peek addr)] }

/-- The state after one byte write at `addr` (R50). -/
def afterWrite (s : State) (addr : Word) (v : Byte) : State :=
  { s with mem := Memory.write s.mem addr.toNat v, bus := s.bus ++ [.write addr v] }

/-- The condition table of R170. -/
def holds (s : State) : Cond → Bool
  | .nz => zf s == false
  | .z => zf s == true
  | .nc => cf s == false
  | .c => cf s == true

/-- The condition codes of R77. -/
def condCode : Cond → BitVec 8
  | .nz => 0 | .z => 1 | .nc => 2 | .c => 3

/-- The register-pair codes of R75. -/
def pairCode : Reg16 → BitVec 8
  | .bc => 0 | .de => 1 | .hl => 2 | .sp => 3

/-- The stack-pair codes of R76. -/
def stackCode : StackReg → BitVec 8
  | .bc => 0 | .de => 1 | .hl => 2 | .af => 3

/-- The register codes of R74 as bytes. -/
def reg8Code : Reg8 → BitVec 8
  | .b => 0 | .c => 1 | .d => 2 | .e => 3 | .h => 4 | .l => 5 | .a => 7

/-- The target codes of R74: the byte at `HL` is code 6. -/
def target8Code : Target8 → BitVec 8
  | .reg r => reg8Code r
  | .ind => 6

/-- A row of the primary table: its bytes encode it and decode to it, its base cost, and its effect on every state, with
no fault and no refusal (R11). -/
def RunsAs (i : Instr) (bytes : List Byte) (cost : Nat) (effect : State → State) : Prop :=
  encode i = bytes ∧ (∀ rest, decode (bytes ++ rest) = .ok (i, rest)) ∧ primaryCost (bytes.headD 0) = cost ∧
    ∀ s, exec i s = .next (effect s)

/-- A row of the secondary table at selector `op2`: its bytes, its cost, its effect where the selector is wired, and the
fault of R84 and R228 where it is not. -/
def RunsWired (i : Instr) (op2 : Byte) (cost : Nat) (effect : State → State) : Prop :=
  encode i = [0xCB, op2] ∧ (∀ rest, decode ([0xCB, op2] ++ rest) = .ok (i, rest)) ∧ secondaryCost op2 = cost ∧
    ∀ s, exec i s = .next (if s.cfg.implements op2 then effect s
      else { s with fault := some (.unimplementedOpcode (s.pc - 2) [0xCB, op2]) })

/-- The value of a source operand (R100). -/
def srcValue (x : Src8) (s : State) : Byte :=
  match x with
  | .reg r => s.reg8 r
  | .ind => s.peek s.hl
  | .imm v => v

/-- The state after a source operand has been read (R100): one read for the `(HL)` form. -/
def srcRead (x : Src8) (s : State) : State :=
  match x with
  | .ind => afterRead s s.hl
  | _ => s

/-- The bytes of the accumulator operation `y` (R78) on a source operand (R100). -/
def srcBytes (y : Byte) : Src8 → List Byte
  | .reg r => [0x80 + 8 * y + reg8Code r]
  | .ind => [0x86 + 8 * y]
  | .imm v => [0xC6 + 8 * y, v]

/-- The cost of an accumulator operation by its source: "4 / 8 / 8" (R103 to R110). -/
def srcCost : Src8 → Nat
  | .reg _ => 4
  | .ind => 8
  | .imm _ => 8

/-- The old value of a target operand (R111, R140, R160). -/
def targetValue (t : Target8) (s : State) : Byte :=
  match t with
  | .reg r => s.reg8 r
  | .ind => s.peek s.hl

/-- A target operand read, then written: a register write, or one read and then one write at `HL` (R140). -/
def targetUpdate (t : Target8) (v : Byte) (s : State) : State :=
  match t with
  | .reg r => s.setReg8 r v
  | .ind => afterWrite (afterRead s s.hl) s.hl v

/-- A target operand read and not written (R160). -/
def targetRead (t : Target8) (s : State) : State :=
  match t with
  | .reg _ => s
  | .ind => afterRead s s.hl

/-- `Rot(kind, old)` by the numbers of R141: the result and the bit shifted or rotated out. -/
def rotNumber (kind : RotKind) (old : Nat) (carry : Bool) : Nat × Bool :=
  match kind with
  | .rlc => (old * 2 % 256 + old / 128, decide (old / 128 = 1))
  | .rrc => (old / 2 + old % 2 * 128, decide (old % 2 = 1))
  | .rl => (old * 2 % 256 + carry.toNat, decide (old / 128 = 1))
  | .rr => (old / 2 + carry.toNat * 128, decide (old % 2 = 1))
  | .sla => (old * 2 % 256, decide (old / 128 = 1))
  | .sra => (old / 2 + old / 128 * 128, decide (old % 2 = 1))
  | .swap => (old % 16 * 16 + old / 16, false)
  | .srl => (old / 2, decide (old % 2 = 1))

/-- The number of a rotate, shift or swap kind in a selector (R79). -/
def rotNo : RotKind → BitVec 8
  | .rlc => 0 | .rrc => 1 | .rl => 2 | .rr => 3 | .sla => 4 | .sra => 5 | .swap => 6 | .srl => 7

/-- The state after `Push16(v)` (R57): two writes, high byte first, and `SP` two lower. -/
def pushed (s : State) (v : Word) : State :=
  { afterWrite (afterWrite s (s.sp - 1) (v.extractLsb' 8 8)) (s.sp - 2) (v.extractLsb' 0 8) with sp := s.sp - 2 }

/-- The state after `Pop16()` (R58): two reads, low byte first, and `SP` two higher. -/
def popped (s : State) : State :=
  { afterRead (afterRead s s.sp) (s.sp + 1) with sp := s.sp + 2 }

/-- The value `Pop16()` returns (R58). -/
def popValue (s : State) : Word := s.peek (s.sp + 1) ++ s.peek s.sp

/-- A taken conditional branch with surcharge `n` (R171). -/
def surcharged (s : State) (n : Nat) : State := { s with ticks := s.ticks + BitVec.ofNat 32 n, extra := s.extra + n }

/-- The three bytes at `PC`. -/
def bytesAtPc (s : State) : List Byte := [s.peek s.pc, s.peek (s.pc + 1), s.peek (s.pc + 2)]

/-- A state in which the scheduler's next call of the step runs an instruction (R86): no outside move is due, no fault is
latched, the core is running. -/
structure Ready (s : State) : Prop where
  noMove : s.agenda = []
  noFault : s.fault = none
  running : s.run = .running

/-- The state in which the bytes of an instruction of length `n` at `PC` have been fetched (R28, R56, R86). -/
def fetchedState (s : State) (n : Nat) : State :=
  { s with
    pc := s.pc + BitVec.ofNat 16 n
    bus := ([.read s.pc (s.peek s.pc), .read (s.pc + 1) (s.peek (s.pc + 1)),
      .read (s.pc + 2) (s.peek (s.pc + 2))] : List Access).take n
    acted := false
    extra := 0
    ret := none }

/-- What R26 and the flags column of spec/opcode_table.json say of one flag: `-`, `0`, `1`, or computed. -/
inductive FlagEffect where
  | kept | cleared | raised | computed
deriving DecidableEq, Repr

/-- The flags column, in the order `Zf Nf Hf Cf`. -/
structure FlagColumn where
  z : FlagEffect
  n : FlagEffect
  h : FlagEffect
  c : FlagEffect
deriving DecidableEq, Repr

/-- The flags column of spec/opcode_table.json for each row (R26). -/
def flagColumn : Instr → FlagColumn
  | .nop | .ld_BC_d16 _ | .ld_mBC_A | .inc_BC | .ld_B_d8 _ | .ld_ma16_SP _ | .ld_A_mBC | .dec_BC | .ld_C_d8 _
  | .stop | .ld_DE_d16 _ | .ld_mDE_A | .inc_DE | .ld_D_d8 _ | .jr_e8 _ | .ld_A_mDE | .dec_DE | .ld_E_d8 _
  | .jr_NZ_e8 _ | .ld_HL_d16 _ | .ld_mHLi_A | .inc_HL | .ld_H_d8 _ | .jr_Z_e8 _ | .ld_A_mHLi | .dec_HL | .ld_L_d8 _
  | .jr_NC_e8 _ | .ld_SP_d16 _ | .ld_mHLd_A | .inc_SP | .ld_mHL_d8 _ | .jr_C_e8 _ | .ld_A_mHLd | .dec_SP
  | .ld_A_d8 _ | .ld_B_B | .ld_B_C | .ld_B_D | .ld_B_E | .ld_B_H | .ld_B_L | .ld_B_mHL | .ld_B_A | .ld_C_B | .ld_C_C
  | .ld_C_D | .ld_C_E | .ld_C_H | .ld_C_L | .ld_C_mHL | .ld_C_A | .ld_D_B | .ld_D_C | .ld_D_D | .ld_D_E | .ld_D_H
  | .ld_D_L | .ld_D_mHL | .ld_D_A | .ld_E_B | .ld_E_C | .ld_E_D | .ld_E_E | .ld_E_H | .ld_E_L | .ld_E_mHL | .ld_E_A
  | .ld_H_B | .ld_H_C | .ld_H_D | .ld_H_E | .ld_H_H | .ld_H_L | .ld_H_mHL | .ld_H_A | .ld_L_B | .ld_L_C | .ld_L_D
  | .ld_L_E | .ld_L_H | .ld_L_L | .ld_L_mHL | .ld_L_A | .ld_mHL_B | .ld_mHL_C | .ld_mHL_D | .ld_mHL_E | .ld_mHL_H
  | .ld_mHL_L | .halt | .ld_mHL_A | .ld_A_B | .ld_A_C | .ld_A_D | .ld_A_E | .ld_A_H | .ld_A_L | .ld_A_mHL | .ld_A_A
  | .ret_NZ | .pop_BC | .jp_NZ_a16 _ | .jp_a16 _ | .call_NZ_a16 _ | .push_BC | .rst_00 | .ret_Z | .ret | .jp_Z_a16 _
  | .prefix_CB | .call_Z_a16 _ | .call_a16 _ | .rst_08 | .ret_NC | .pop_DE | .jp_NC_a16 _ | .illegal_D3
  | .call_NC_a16 _ | .push_DE | .rst_10 | .ret_C | .reti | .jp_C_a16 _ | .illegal_DB | .call_C_a16 _ | .illegal_DD
  | .rst_18 | .ldh_ma8_A _ | .pop_HL | .ld_mC_A | .illegal_E3 | .illegal_E4 | .push_HL | .rst_20 | .jp_HL
  | .ld_ma16_A _ | .illegal_EB | .illegal_EC | .illegal_ED | .rst_28 | .ldh_A_ma8 _ | .ld_A_mC | .di | .illegal_F4
  | .push_AF | .rst_30 | .ld_SP_HL | .ld_A_ma16 _ | .ei | .illegal_FC | .illegal_FD | .rst_38 | .res_b_r _ _
  | .res_b_mHL _ | .set_b_r _ _ | .set_b_mHL _ => ⟨.kept, .kept, .kept, .kept⟩
  | .inc_B | .inc_C | .inc_D | .inc_E | .inc_H | .inc_L | .inc_mHL | .inc_A => ⟨.computed, .cleared, .computed, .kept⟩
  | .dec_B | .dec_C | .dec_D | .dec_E | .dec_H | .dec_L | .dec_mHL | .dec_A => ⟨.computed, .raised, .computed, .kept⟩
  | .rlca | .rrca | .rla | .rra => ⟨.cleared, .cleared, .cleared, .computed⟩
  | .add_HL_BC | .add_HL_DE | .add_HL_HL | .add_HL_SP => ⟨.kept, .cleared, .computed, .computed⟩
  | .daa => ⟨.computed, .kept, .cleared, .computed⟩
  | .cpl => ⟨.kept, .raised, .raised, .kept⟩
  | .scf => ⟨.kept, .cleared, .cleared, .raised⟩
  | .ccf => ⟨.kept, .cleared, .cleared, .computed⟩
  | .add_A_B | .add_A_C | .add_A_D | .add_A_E | .add_A_H | .add_A_L | .add_A_mHL | .add_A_A | .adc_A_B | .adc_A_C
  | .adc_A_D | .adc_A_E | .adc_A_H | .adc_A_L | .adc_A_mHL | .adc_A_A | .add_A_d8 _ | .adc_A_d8 _ => ⟨.computed, .cleared, .computed, .computed⟩
  | .sub_B | .sub_C | .sub_D | .sub_E | .sub_H | .sub_L | .sub_mHL | .sub_A | .sbc_A_B | .sbc_A_C | .sbc_A_D
  | .sbc_A_E | .sbc_A_H | .sbc_A_L | .sbc_A_mHL | .sbc_A_A | .cp_B | .cp_C | .cp_D | .cp_E | .cp_H | .cp_L | .cp_mHL
  | .cp_A | .sub_d8 _ | .sbc_A_d8 _ | .cp_d8 _ => ⟨.computed, .raised, .computed, .computed⟩
  | .and_B | .and_C | .and_D | .and_E | .and_H | .and_L | .and_mHL | .and_A | .and_d8 _ => ⟨.computed, .cleared, .raised, .cleared⟩
  | .xor_B | .xor_C | .xor_D | .xor_E | .xor_H | .xor_L | .xor_mHL | .xor_A | .or_B | .or_C | .or_D | .or_E | .or_H
  | .or_L | .or_mHL | .or_A | .xor_d8 _ | .or_d8 _ | .swap_r _ | .swap_mHL => ⟨.computed, .cleared, .cleared, .cleared⟩
  | .add_SP_e8 _ | .ld_HL_SPe8 _ => ⟨.cleared, .cleared, .computed, .computed⟩
  | .pop_AF => ⟨.computed, .computed, .computed, .computed⟩
  | .rlc_r _ | .rlc_mHL | .rrc_r _ | .rrc_mHL | .rl_r _ | .rl_mHL | .rr_r _ | .rr_mHL | .sla_r _ | .sla_mHL
  | .sra_r _ | .sra_mHL | .srl_r _ | .srl_mHL => ⟨.computed, .cleared, .cleared, .computed⟩
  | .bit_b_r _ _ | .bit_b_mHL _ => ⟨.computed, .cleared, .raised, .kept⟩

/-- Whether a flag of the state after has the value its effect allows, the flag before given. -/
def FlagEffect.allows (e : FlagEffect) (before after : Bool) : Prop :=
  match e with
  | .kept => after = before
  | .cleared => after = false
  | .raised => after = true
  | .computed => True

/-- The 8-bit registers a row writes (R21, R22 and the rows' rules); the escape writes what its secondary rule does. -/
def destRegs : Instr → List Reg8
  | .ld_BC_d16 _ | .inc_BC | .dec_BC | .pop_BC => [.b, .c]
  | .inc_B | .dec_B | .ld_B_d8 _ | .ld_B_B | .ld_B_C | .ld_B_D | .ld_B_E | .ld_B_H | .ld_B_L | .ld_B_mHL | .ld_B_A => [.b]
  | .rlca | .ld_A_mBC | .rrca | .rla | .ld_A_mDE | .rra | .daa | .cpl | .inc_A | .dec_A | .ld_A_d8 _ | .ld_A_B
  | .ld_A_C | .ld_A_D | .ld_A_E | .ld_A_H | .ld_A_L | .ld_A_mHL | .ld_A_A | .add_A_B | .add_A_C | .add_A_D
  | .add_A_E | .add_A_H | .add_A_L | .add_A_mHL | .add_A_A | .adc_A_B | .adc_A_C | .adc_A_D | .adc_A_E | .adc_A_H
  | .adc_A_L | .adc_A_mHL | .adc_A_A | .sub_B | .sub_C | .sub_D | .sub_E | .sub_H | .sub_L | .sub_mHL | .sub_A
  | .sbc_A_B | .sbc_A_C | .sbc_A_D | .sbc_A_E | .sbc_A_H | .sbc_A_L | .sbc_A_mHL | .sbc_A_A | .and_B | .and_C
  | .and_D | .and_E | .and_H | .and_L | .and_mHL | .and_A | .xor_B | .xor_C | .xor_D | .xor_E | .xor_H | .xor_L
  | .xor_mHL | .xor_A | .or_B | .or_C | .or_D | .or_E | .or_H | .or_L | .or_mHL | .or_A | .add_A_d8 _ | .adc_A_d8 _
  | .sub_d8 _ | .sbc_A_d8 _ | .and_d8 _ | .xor_d8 _ | .ldh_A_ma8 _ | .pop_AF | .ld_A_mC | .or_d8 _ | .ld_A_ma16 _ => [.a]
  | .add_HL_BC | .add_HL_DE | .ld_HL_d16 _ | .ld_mHLi_A | .inc_HL | .add_HL_HL | .dec_HL | .ld_mHLd_A | .add_HL_SP
  | .pop_HL | .ld_HL_SPe8 _ => [.h, .l]
  | .inc_C | .dec_C | .ld_C_d8 _ | .ld_C_B | .ld_C_C | .ld_C_D | .ld_C_E | .ld_C_H | .ld_C_L | .ld_C_mHL | .ld_C_A => [.c]
  | .ld_DE_d16 _ | .inc_DE | .dec_DE | .pop_DE => [.d, .e]
  | .inc_D | .dec_D | .ld_D_d8 _ | .ld_D_B | .ld_D_C | .ld_D_D | .ld_D_E | .ld_D_H | .ld_D_L | .ld_D_mHL | .ld_D_A => [.d]
  | .inc_E | .dec_E | .ld_E_d8 _ | .ld_E_B | .ld_E_C | .ld_E_D | .ld_E_E | .ld_E_H | .ld_E_L | .ld_E_mHL | .ld_E_A => [.e]
  | .inc_H | .dec_H | .ld_H_d8 _ | .ld_H_B | .ld_H_C | .ld_H_D | .ld_H_E | .ld_H_H | .ld_H_L | .ld_H_mHL | .ld_H_A => [.h]
  | .ld_A_mHLi | .ld_A_mHLd => [.a, .h, .l]
  | .inc_L | .dec_L | .ld_L_d8 _ | .ld_L_B | .ld_L_C | .ld_L_D | .ld_L_E | .ld_L_H | .ld_L_L | .ld_L_mHL | .ld_L_A => [.l]
  | .prefix_CB => [.b, .c, .d, .e, .h, .l, .a]
  | .rlc_r r => [r]
  | .rrc_r r => [r]
  | .rl_r r => [r]
  | .rr_r r => [r]
  | .sla_r r => [r]
  | .sra_r r => [r]
  | .swap_r r => [r]
  | .srl_r r => [r]
  | .res_b_r _ r => [r]
  | .set_b_r _ r => [r]
  | .nop | .ld_mBC_A | .ld_ma16_SP _ | .stop | .ld_mDE_A | .jr_e8 _ | .jr_NZ_e8 _ | .jr_Z_e8 _ | .jr_NC_e8 _
  | .ld_SP_d16 _ | .inc_SP | .inc_mHL | .dec_mHL | .ld_mHL_d8 _ | .scf | .jr_C_e8 _ | .dec_SP | .ccf | .ld_mHL_B
  | .ld_mHL_C | .ld_mHL_D | .ld_mHL_E | .ld_mHL_H | .ld_mHL_L | .halt | .ld_mHL_A | .cp_B | .cp_C | .cp_D | .cp_E
  | .cp_H | .cp_L | .cp_mHL | .cp_A | .ret_NZ | .jp_NZ_a16 _ | .jp_a16 _ | .call_NZ_a16 _ | .push_BC | .rst_00
  | .ret_Z | .ret | .jp_Z_a16 _ | .call_Z_a16 _ | .call_a16 _ | .rst_08 | .ret_NC | .jp_NC_a16 _ | .illegal_D3
  | .call_NC_a16 _ | .push_DE | .rst_10 | .ret_C | .reti | .jp_C_a16 _ | .illegal_DB | .call_C_a16 _ | .illegal_DD
  | .rst_18 | .ldh_ma8_A _ | .ld_mC_A | .illegal_E3 | .illegal_E4 | .push_HL | .rst_20 | .add_SP_e8 _ | .jp_HL
  | .ld_ma16_A _ | .illegal_EB | .illegal_EC | .illegal_ED | .rst_28 | .di | .illegal_F4 | .push_AF | .rst_30
  | .ld_SP_HL | .ei | .illegal_FC | .illegal_FD | .cp_d8 _ | .rst_38 | .rlc_mHL | .rrc_mHL | .rl_mHL | .rr_mHL
  | .sla_mHL | .sra_mHL | .swap_mHL | .srl_mHL | .bit_b_r _ _ | .bit_b_mHL _ | .res_b_mHL _ | .set_b_mHL _ => []

/-- The rows that write `SP` (R27); the conditional ones only when taken. -/
def writesSp : Instr → Bool
  | .ld_SP_d16 _ | .inc_SP | .dec_SP | .ret_NZ | .pop_BC | .call_NZ_a16 _ | .push_BC | .rst_00 | .ret_Z | .ret
  | .call_Z_a16 _ | .call_a16 _ | .rst_08 | .ret_NC | .pop_DE | .call_NC_a16 _ | .push_DE | .rst_10 | .ret_C | .reti
  | .call_C_a16 _ | .rst_18 | .pop_HL | .push_HL | .rst_20 | .add_SP_e8 _ | .rst_28 | .pop_AF | .push_AF | .rst_30
  | .ld_SP_HL | .rst_38 => true
  | _ => false

/-- The addresses a row stores to, in order, computed from the state its meaning starts from; a secondary row stores only
where its selector is wired (R57, R59, R84, R140, R164, R166, R190). -/
def storeAddrs (i : Instr) (s : State) : List Word :=
  match i with
  | .ld_mBC_A => [s.bc]
  | .ld_ma16_SP a16 => [a16, a16 + 1]
  | .ld_mDE_A => [s.de]
  | .ld_mHLi_A => [s.hl]
  | .ld_mHLd_A => [s.hl]
  | .inc_mHL => [s.hl]
  | .dec_mHL => [s.hl]
  | .ld_mHL_d8 _ => [s.hl]
  | .ld_mHL_B => [s.hl]
  | .ld_mHL_C => [s.hl]
  | .ld_mHL_D => [s.hl]
  | .ld_mHL_E => [s.hl]
  | .ld_mHL_H => [s.hl]
  | .ld_mHL_L => [s.hl]
  | .ld_mHL_A => [s.hl]
  | .call_NZ_a16 _ => if holds s .nz then [s.sp - 1, s.sp - 2] else []
  | .push_BC => [s.sp - 1, s.sp - 2]
  | .rst_00 => [s.sp - 1, s.sp - 2]
  | .call_Z_a16 _ => if holds s .z then [s.sp - 1, s.sp - 2] else []
  | .call_a16 _ => [s.sp - 1, s.sp - 2]
  | .rst_08 => [s.sp - 1, s.sp - 2]
  | .call_NC_a16 _ => if holds s .nc then [s.sp - 1, s.sp - 2] else []
  | .push_DE => [s.sp - 1, s.sp - 2]
  | .rst_10 => [s.sp - 1, s.sp - 2]
  | .call_C_a16 _ => if holds s .c then [s.sp - 1, s.sp - 2] else []
  | .rst_18 => [s.sp - 1, s.sp - 2]
  | .ldh_ma8_A a8 => [0xFF00 + a8.setWidth 16]
  | .ld_mC_A => [0xFF00 + s.c.setWidth 16]
  | .push_HL => [s.sp - 1, s.sp - 2]
  | .rst_20 => [s.sp - 1, s.sp - 2]
  | .ld_ma16_A a16 => [a16]
  | .rst_28 => [s.sp - 1, s.sp - 2]
  | .push_AF => [s.sp - 1, s.sp - 2]
  | .rst_30 => [s.sp - 1, s.sp - 2]
  | .rst_38 => [s.sp - 1, s.sp - 2]
  | .rlc_mHL => if s.cfg.implements 0x06 then [s.hl] else []
  | .rrc_mHL => if s.cfg.implements 0x0E then [s.hl] else []
  | .rl_mHL => if s.cfg.implements 0x16 then [s.hl] else []
  | .rr_mHL => if s.cfg.implements 0x1E then [s.hl] else []
  | .sla_mHL => if s.cfg.implements 0x26 then [s.hl] else []
  | .sra_mHL => if s.cfg.implements 0x2E then [s.hl] else []
  | .swap_mHL => if s.cfg.implements 0x36 then [s.hl] else []
  | .srl_mHL => if s.cfg.implements 0x3E then [s.hl] else []
  | .res_b_mHL b => if s.cfg.implements (0x86 + 8 * b.setWidth 8) then [s.hl] else []
  | .set_b_mHL b => if s.cfg.implements (0xC6 + 8 * b.setWidth 8) then [s.hl] else []
  | _ => []

/-- The addresses written in an access list, in order. -/
def writesOf (bus : List Access) : List Word :=
  bus.filterMap fun x => match x with
    | .write addr _ => some addr
    | .read _ _ => none

/-- The rows whose condition can add a surcharge (R89). -/
def isConditional (i : Instr) : Prop :=
  ∃ cc : Cond, (∃ v, i = .jrIf cc v) ∨ (∃ v, i = .jpIf cc v) ∨ (∃ v, i = .callIf cc v) ∨ i = .retIf cc

/-- The rows that can latch a fault: the illegal code points, and the rows behind the escape (R83, R84). -/
def canFault : Instr → Bool
  | .prefix_CB | .illegal_D3 | .illegal_DB | .illegal_DD | .illegal_E3 | .illegal_E4 | .illegal_EB | .illegal_EC
  | .illegal_ED | .illegal_F4 | .illegal_FC | .illegal_FD | .rlc_r _ | .rlc_mHL | .rrc_r _ | .rrc_mHL | .rl_r _
  | .rl_mHL | .rr_r _ | .rr_mHL | .sla_r _ | .sla_mHL | .sra_r _ | .sra_mHL | .swap_r _ | .swap_mHL | .srl_r _
  | .srl_mHL | .bit_b_r _ _ | .bit_b_mHL _ | .res_b_r _ _ | .res_b_mHL _ | .set_b_r _ _ | .set_b_mHL _ => true
  | _ => false

end Sys2Proof.Claims

open Sys2Proof Sys2Proof.Machine Sys2Proof.Claims

/-- ADD A,s and ADC A,s: encoding, cost, result and flags, for every source. -/
def Obligations.AddAndAddWithCarry : Prop :=
  (∀ x : Src8, RunsAs (.alu .add x) (srcBytes 0 x) (srcCost x) fun s =>
    let v := srcValue x s
    withFlags { srcRead x s with a := s.a + v } (decide ((s.a.toNat + v.toNat) % 256 = 0)) false
      (decide (s.a.toNat % 16 + v.toNat % 16 > 15)) (decide (s.a.toNat + v.toNat > 255))) ∧
  (∀ x : Src8, RunsAs (.alu .adc x) (srcBytes 1 x) (srcCost x) fun s =>
    let v := srcValue x s
    let k := (cf s).toNat
    withFlags { srcRead x s with a := s.a + v + BitVec.ofNat 8 k } (decide ((s.a.toNat + v.toNat + k) % 256 = 0)) false
      (decide (s.a.toNat % 16 + v.toNat % 16 + k > 15)) (decide (s.a.toNat + v.toNat + k > 255)))

/-- SUB s, SBC A,s and CP s: encoding, cost, result and flags, for every source. -/
def Obligations.SubtractAndCompare : Prop :=
  (∀ x : Src8, RunsAs (.alu .sub x) (srcBytes 2 x) (srcCost x) fun s =>
    let v := srcValue x s
    withFlags { srcRead x s with a := s.a - v } (decide (s.a = v)) true
      (decide (s.a.toNat % 16 < v.toNat % 16)) (decide (s.a.toNat < v.toNat))) ∧
  (∀ x : Src8, RunsAs (.alu .sbc x) (srcBytes 3 x) (srcCost x) fun s =>
    let v := srcValue x s
    let k := (cf s).toNat
    withFlags { srcRead x s with a := s.a - v - BitVec.ofNat 8 k } (decide (s.a - v - BitVec.ofNat 8 k = 0)) true
      (decide (s.a.toNat % 16 < v.toNat % 16 + k)) (decide (s.a.toNat < v.toNat + k))) ∧
  (∀ x : Src8, RunsAs (.alu .cp x) (srcBytes 7 x) (srcCost x) fun s =>
    let v := srcValue x s
    withFlags (srcRead x s) (decide (s.a = v)) true
      (decide (s.a.toNat % 16 < v.toNat % 16)) (decide (s.a.toNat < v.toNat)))

/-- AND s, XOR s and OR s: encoding, cost, result and flags, for every source. -/
def Obligations.LogicOperations : Prop :=
  (∀ x : Src8, RunsAs (.alu .and x) (srcBytes 4 x) (srcCost x) fun s =>
    withFlags { srcRead x s with a := s.a &&& srcValue x s } (decide (s.a &&& srcValue x s = 0)) false true false) ∧
  (∀ x : Src8, RunsAs (.alu .xor x) (srcBytes 5 x) (srcCost x) fun s =>
    withFlags { srcRead x s with a := s.a ^^^ srcValue x s } (decide (s.a = srcValue x s)) false false false) ∧
  (∀ x : Src8, RunsAs (.alu .or x) (srcBytes 6 x) (srcCost x) fun s =>
    withFlags { srcRead x s with a := s.a ||| srcValue x s } (decide (s.a = 0 ∧ srcValue x s = 0)) false false false)

/-- INC and DEC of a register and of the byte at HL: encoding, cost, result and flags. -/
def Obligations.IncrementDecrementByte : Prop :=
  (∀ t : Target8, RunsAs (.inc8 t) [0x04 + 8 * target8Code t] (if t = .ind then 12 else 4) fun s =>
    let v := targetValue t s
    withFlags (targetUpdate t (v + 1) s) (decide (v = 0xFF)) false (decide (v.toNat % 16 = 15)) (cf s)) ∧
  (∀ t : Target8, RunsAs (.dec8 t) [0x05 + 8 * target8Code t] (if t = .ind then 12 else 4) fun s =>
    let v := targetValue t s
    withFlags (targetUpdate t (v - 1) s) (decide (v = 0x01)) true (decide (v.toNat % 16 = 0)) (cf s))

/-- DAA: encoding, cost, result and flags for every A and every flag setting. -/
def Obligations.DecimalAdjust : Prop :=
  RunsAs .daa [0x27] 4 fun s =>
    let low : Nat := if hf s = true ∨ (nf s = false ∧ s.a.toNat % 16 > 9) then 0x06 else 0
    let high : Nat := if cf s = true ∨ (nf s = false ∧ s.a.toNat > 0x99) then 0x60 else 0
    let res : Byte := if nf s then s.a - BitVec.ofNat 8 (low + high) else s.a + BitVec.ofNat 8 (low + high)
    withFlags { s with a := res } (decide (res = 0)) (nf s) false (decide (high = 0x60))

/-- ADD then DAA is decimal addition of packed-BCD bytes. -/
def Obligations.DecimalAddLaw : Prop :=
  ∀ (s : State) (x : Src8),
    s.a.toNat / 16 ≤ 9 → s.a.toNat % 16 ≤ 9 → (srcValue x s).toNat / 16 ≤ 9 → (srcValue x s).toNat % 16 ≤ 9 →
    ∃ t u, exec (.alu .add x) s = .next t ∧ exec .daa t = .next u ∧
      (let sum := (s.a.toNat / 16 * 10 + s.a.toNat % 16) + ((srcValue x s).toNat / 16 * 10 + (srcValue x s).toNat % 16)
       u.a.toNat = sum % 100 / 10 * 16 + sum % 10 ∧ (cf u = true ↔ sum > 99))

/-- CPL, SCF and CCF: encoding, cost and effect. -/
def Obligations.FlagInstructions : Prop :=
  RunsAs .cpl [0x2F] 4 (fun s => withFlags { s with a := ~~~s.a } (zf s) true true (cf s)) ∧
  RunsAs .scf [0x37] 4 (fun s => withFlags s (zf s) false false true) ∧
  RunsAs .ccf [0x3F] 4 (fun s => withFlags s (zf s) false false (!cf s))

/-- ADD HL,rr: encoding, cost, result and flags for all four pairs. -/
def Obligations.AddPairToHl : Prop :=
  ∀ p : Reg16, RunsAs (.addHl p) [0x09 + 16 * pairCode p] 8 fun s =>
    let x := s.hl.toNat
    let y := (s.reg16 p).toNat
    let v := BitVec.ofNat 16 (x + y)
    withFlags { s with h := v.extractLsb' 8 8, l := v.extractLsb' 0 8 } (zf s) false
      (decide (x % 4096 + y % 4096 > 4095)) (decide (x + y > 65535))

/-- INC rr and DEC rr: encoding, cost and effect; no flag is written. -/
def Obligations.IncrementDecrementPair : Prop :=
  (∀ p : Reg16, RunsAs (.inc16 p) [0x03 + 16 * pairCode p] 8 fun s => s.setReg16 p (BitVec.ofNat 16 ((s.reg16 p).toNat + 1))) ∧
  (∀ p : Reg16, RunsAs (.dec16 p) [0x0B + 16 * pairCode p] 8 fun s => s.setReg16 p (BitVec.ofNat 16 ((s.reg16 p).toNat + 65535)))

/-- ADD SP,e8 and LD HL,SP+e8: encoding, cost, result and byte-width carries. -/
def Obligations.StackPointerPlusDisplacement : Prop :=
  (∀ e : Byte, RunsAs (.add_SP_e8 e) [0xE8, e] 16 fun s =>
    withFlags { s with sp := BitVec.ofInt 16 (s.sp.toNat + e.toInt) } false false
      (decide (s.sp.toNat % 16 + e.toNat % 16 > 15)) (decide (s.sp.toNat % 256 + e.toNat > 255))) ∧
  (∀ e : Byte, RunsAs (.ld_HL_SPe8 e) [0xF8, e] 12 fun s =>
    let v := BitVec.ofInt 16 (s.sp.toNat + e.toInt)
    withFlags { s with h := v.extractLsb' 8 8, l := v.extractLsb' 0 8 } false false
      (decide (s.sp.toNat % 16 + e.toNat % 16 > 15)) (decide (s.sp.toNat % 256 + e.toNat > 255)))

/-- RLCA, RRCA, RLA, RRA: encoding, cost and effect; Z is always cleared. -/
def Obligations.AccumulatorRotates : Prop :=
  let effect (k : RotKind) (s : State) : State :=
    let r := rotNumber k s.a.toNat (cf s)
    withFlags { s with a := BitVec.ofNat 8 r.1 } false false false r.2
  RunsAs .rlca [0x07] 4 (effect .rlc) ∧ RunsAs .rrca [0x0F] 4 (effect .rrc) ∧
  RunsAs .rla [0x17] 4 (effect .rl) ∧ RunsAs .rra [0x1F] 4 (effect .rr)

/-- RLC RRC RL RR SLA SRA SWAP SRL on a register and on (HL): encoding, cost, effect, fault. -/
def Obligations.SecondaryRotates : Prop :=
  ∀ (k : RotKind) (t : Target8), RunsWired (.rot k t) (8 * rotNo k + target8Code t) (if t = .ind then 16 else 8) fun s =>
    let r := rotNumber k (targetValue t s).toNat (cf s)
    withFlags (targetUpdate t (BitVec.ofNat 8 r.1) s) (decide (r.1 = 0)) false false r.2

/-- RLCA applied eight times returns A; each C is the bit rotated out. -/
def Obligations.EightRlcaRestoreA : Prop :=
  (∀ s : State, ∃ t, exec .rlca s = .next t ∧ cf t = s.a.getLsbD 7) ∧
  ∀ s : State, ∃ s1 s2 s3 s4 s5 s6 s7 s8, exec .rlca s = .next s1 ∧ exec .rlca s1 = .next s2 ∧ exec .rlca s2 = .next s3 ∧
    exec .rlca s3 = .next s4 ∧ exec .rlca s4 = .next s5 ∧ exec .rlca s5 = .next s6 ∧ exec .rlca s6 = .next s7 ∧
    exec .rlca s7 = .next s8 ∧ s8.a = s.a

/-- BIT b,r and BIT b,(HL): encoding, cost, flags, fault. -/
def Obligations.BitTest : Prop :=
  ∀ (b : BitVec 3) (t : Target8), RunsWired (.bit b t) (0x40 + 8 * b.setWidth 8 + target8Code t) (if t = .ind then 12 else 8) fun s =>
    withFlags (targetRead t s) (decide ((targetValue t s).toNat / 2 ^ b.toNat % 2 = 0)) false true (cf s)

/-- RES and SET of a bit of a register and of (HL): encoding, cost, effect, fault; no flag is written. -/
def Obligations.BitResetAndSet : Prop :=
  (∀ (b : BitVec 3) (t : Target8), RunsWired (.res b t) (0x80 + 8 * b.setWidth 8 + target8Code t) (if t = .ind then 16 else 8) fun s =>
    targetUpdate t (BitVec.ofNat 8 ((targetValue t s).toNat - (targetValue t s).toNat / 2 ^ b.toNat % 2 * 2 ^ b.toNat)) s) ∧
  (∀ (b : BitVec 3) (t : Target8), RunsWired (.set b t) (0xC0 + 8 * b.setWidth 8 + target8Code t) (if t = .ind then 16 else 8) fun s =>
    targetUpdate t (BitVec.ofNat 8 ((targetValue t s).toNat + (1 - (targetValue t s).toNat / 2 ^ b.toNat % 2) * 2 ^ b.toNat)) s)

/-- JP a16, JP HL and JR e8: encoding, cost and target. -/
def Obligations.UnconditionalJumps : Prop :=
  (∀ nn : Word, RunsAs (.jp_a16 nn) [0xC3, nn.extractLsb' 0 8, nn.extractLsb' 8 8] 16 fun s => { s with pc := nn }) ∧
  RunsAs .jp_HL [0xE9] 4 (fun s => { s with pc := s.h ++ s.l }) ∧
  (∀ e : Byte, RunsAs (.jr_e8 e) [0x18, e] 12 fun s => { s with pc := BitVec.ofInt 16 (s.pc.toNat + e.toInt) })

/-- JP cc,a16 and JR cc,e8: encoding, base cost, taken and not taken. -/
def Obligations.ConditionalJumps : Prop :=
  (∀ (cc : Cond) (nn : Word),
    RunsAs (.jpIf cc nn) [0xC2 + 8 * condCode cc, nn.extractLsb' 0 8, nn.extractLsb' 8 8] 12 fun s =>
      if holds s cc then surcharged { s with pc := nn } 4 else s) ∧
  (∀ (cc : Cond) (e : Byte), RunsAs (.jrIf cc e) [0x20 + 8 * condCode cc, e] 8 fun s =>
      if holds s cc then surcharged { s with pc := BitVec.ofInt 16 (s.pc.toNat + e.toInt) } 4 else s)

/-- CALL a16 and RST n: encoding, cost, pushed return address and target. -/
def Obligations.CallAndRestart : Prop :=
  (∀ nn : Word, RunsAs (.call_a16 nn) [0xCD, nn.extractLsb' 0 8, nn.extractLsb' 8 8] 24 fun s => { pushed s s.pc with pc := nn }) ∧
  (∀ y : Fin 8, RunsAs (.rst y) [0xC7 + 8 * BitVec.ofNat 8 y.val] 16 fun s => { pushed s s.pc with pc := BitVec.ofNat 16 (8 * y.val) })

/-- CALL cc,a16: encoding, base cost, taken and not taken. -/
def Obligations.ConditionalCall : Prop :=
  ∀ (cc : Cond) (nn : Word),
    RunsAs (.callIf cc nn) [0xC4 + 8 * condCode cc, nn.extractLsb' 0 8, nn.extractLsb' 8 8] 12 fun s =>
      if holds s cc then surcharged { pushed s s.pc with pc := nn } 12 else s

/-- RET, RET cc and RETI: encoding, cost, popped PC, and IME after RETI. -/
def Obligations.Returns : Prop :=
  RunsAs .ret [0xC9] 16 (fun s => { popped s with pc := popValue s }) ∧
  RunsAs .reti [0xD9] 16 (fun s => { popped s with pc := popValue s, ime := true, imePending := false }) ∧
  (∀ cc : Cond, RunsAs (.retIf cc) [0xC0 + 8 * condCode cc] 8 fun s =>
    if holds s cc then surcharged { popped s with pc := popValue s } 12 else s)

/-- LD r,r' (49 rows) and LD r,d8: encoding, cost and effect. -/
def Obligations.LoadRegisterMoves : Prop :=
  (∀ dst src : Reg8, RunsAs (.ldReg dst src) [0x40 + 8 * reg8Code dst + reg8Code src] 4 fun s => s.setReg8 dst (s.reg8 src)) ∧
  (∀ (dst : Reg8) (v : Byte), RunsAs (.ldImm dst v) [0x06 + 8 * reg8Code dst, v] 8 fun s => s.setReg8 dst v)

/-- LD r,(HL), LD (HL),r and LD (HL),d8: encoding, cost, one access at the old HL. -/
def Obligations.MovesThroughHl : Prop :=
  (∀ dst : Reg8, RunsAs (.ldLoad dst) [0x46 + 8 * reg8Code dst] 8 fun s => (afterRead s (s.h ++ s.l)).setReg8 dst (s.peek (s.h ++ s.l))) ∧
  (∀ r : Reg8, RunsAs (.ldStore r) [0x70 + reg8Code r] 8 fun s => afterWrite s (s.h ++ s.l) (s.reg8 r)) ∧
  (∀ v : Byte, RunsAs (.ld_mHL_d8 v) [0x36, v] 12 fun s => afterWrite s (s.h ++ s.l) v)

/-- LD between A and (BC), (DE), (a16), (a8), (C): encoding, cost, address and access. -/
def Obligations.AccumulatorMoves : Prop :=
  let loadA (addr : State → Word) (s : State) : State := { afterRead s (addr s) with a := s.peek (addr s) }
  let storeA (addr : State → Word) (s : State) : State := afterWrite s (addr s) s.a
  RunsAs .ld_A_mBC [0x0A] 8 (loadA fun s => s.b ++ s.c) ∧ RunsAs .ld_A_mDE [0x1A] 8 (loadA fun s => s.d ++ s.e) ∧
  RunsAs .ld_mBC_A [0x02] 8 (storeA fun s => s.b ++ s.c) ∧ RunsAs .ld_mDE_A [0x12] 8 (storeA fun s => s.d ++ s.e) ∧
  (∀ nn : Word, RunsAs (.ld_A_ma16 nn) [0xFA, nn.extractLsb' 0 8, nn.extractLsb' 8 8] 16 (loadA fun _ => nn)) ∧
  (∀ nn : Word, RunsAs (.ld_ma16_A nn) [0xEA, nn.extractLsb' 0 8, nn.extractLsb' 8 8] 16 (storeA fun _ => nn)) ∧
  (∀ o : Byte, RunsAs (.ldh_A_ma8 o) [0xF0, o] 12 (loadA fun _ => BitVec.ofNat 16 (0xFF00 + o.toNat))) ∧
  (∀ o : Byte, RunsAs (.ldh_ma8_A o) [0xE0, o] 12 (storeA fun _ => BitVec.ofNat 16 (0xFF00 + o.toNat))) ∧
  RunsAs .ld_A_mC [0xF2] 8 (loadA fun s => BitVec.ofNat 16 (0xFF00 + s.c.toNat)) ∧
  RunsAs .ld_mC_A [0xE2] 8 (storeA fun s => BitVec.ofNat 16 (0xFF00 + s.c.toNat))

/-- LD A,(HL+), LD A,(HL-), LD (HL+),A and LD (HL-),A: encoding, cost, access, HL after. -/
def Obligations.AutoStepMoves : Prop :=
  let withHl (s : State) (v : Nat) : State :=
    { s with h := (BitVec.ofNat 16 v).extractLsb' 8 8, l := (BitVec.ofNat 16 v).extractLsb' 0 8 }
  let old (s : State) : Word := s.h ++ s.l
  RunsAs .ld_A_mHLi [0x2A] 8 (fun s => withHl { afterRead s (old s) with a := s.peek (old s) } ((old s).toNat + 1)) ∧
  RunsAs .ld_A_mHLd [0x3A] 8 (fun s => withHl { afterRead s (old s) with a := s.peek (old s) } ((old s).toNat + 65535)) ∧
  RunsAs .ld_mHLi_A [0x22] 8 (fun s => withHl (afterWrite s (old s) s.a) ((old s).toNat + 1)) ∧
  RunsAs .ld_mHLd_A [0x32] 8 (fun s => withHl (afterWrite s (old s) s.a) ((old s).toNat + 65535))

/-- LD rr,d16, LD SP,HL and LD (a16),SP: encoding, cost and effect. -/
def Obligations.WordMoves : Prop :=
  (∀ (p : Reg16) (nn : Word),
    RunsAs (.ldImm16 p nn) [0x01 + 16 * pairCode p, nn.extractLsb' 0 8, nn.extractLsb' 8 8] 12 fun s => s.setReg16 p nn) ∧
  RunsAs .ld_SP_HL [0xF9] 8 (fun s => { s with sp := s.h ++ s.l }) ∧
  (∀ nn : Word, RunsAs (.ld_ma16_SP nn) [0x08, nn.extractLsb' 0 8, nn.extractLsb' 8 8] 20 fun s =>
    afterWrite (afterWrite s nn (s.sp.extractLsb' 0 8)) (nn + 1) (s.sp.extractLsb' 8 8))

/-- PUSH BC, DE, HL and AF: encoding, cost, the two writes and SP. -/
def Obligations.PushPair : Prop :=
  ∀ q : StackReg, RunsAs (.push q) [0xC5 + 16 * stackCode q] 16 fun s =>
    pushed s (match q with
      | .bc => s.b ++ s.c
      | .de => s.d ++ s.e
      | .hl => s.h ++ s.l
      | .af => s.a ++ s.f)

/-- POP BC, DE, HL and AF: encoding, cost, the two reads, SP, and the low nibble of F. -/
def Obligations.PopPair : Prop :=
  ∀ q : StackReg, RunsAs (.pop q) [0xC1 + 16 * stackCode q] 12 fun s =>
    let hi := s.peek (s.sp + 1)
    let lo := s.peek s.sp
    match q with
    | .bc => { popped s with b := hi, c := lo }
    | .de => { popped s with d := hi, e := lo }
    | .hl => { popped s with h := hi, l := lo }
    | .af => { popped s with a := hi, f := lo &&& 0xF0 }

/-- NOP, HALT and STOP: encoding, cost and effect, for both settings of STOP_LENGTH. -/
def Obligations.NopHaltStop : Prop :=
  RunsAs .nop [0x00] 4 (fun s => s) ∧
  RunsAs .halt [0x76] 4 (fun s => { s with run := .halted }) ∧
  RunsAs .stop [0x10] 4 (fun s =>
    if s.cfg.stopTwoBytes then { afterRead s s.pc with pc := s.pc + 1, run := .stopped } else { s with run := .stopped })

/-- DI and EI: encoding, cost and effect, for both settings of EI_DELAY. -/
def Obligations.DisableEnableInterrupts : Prop :=
  RunsAs .di [0xF3] 4 (fun s => { s with ime := false, imePending := false }) ∧
  RunsAs .ei [0xFB] 4 (fun s =>
    if s.cfg.eiDelay then { s with imePending := s.imePending || !s.ime } else { s with ime := true })

/-- PREFIX CB fetches the selector and runs the secondary rule. -/
def Obligations.EscapeDispatchesSelector : Prop :=
  Instr.wf .prefix_CB = false ∧ (∀ bs rest, decode bs ≠ .ok (.prefix_CB, rest)) ∧
  ∀ s : State, ∃ t, exec .prefix_CB s = .next t ∧
    exec (secondaryTable (s.peek s.pc)) { afterRead s s.pc with pc := s.pc + 1 } = .next t

/-- The 11 illegal code points: encoding, and the fault they latch. -/
def Obligations.IllegalCodePointsLatch : Prop :=
  ∀ k : Fin 11, ∃ b1, illegalSet[k.val]? = some b1 ∧ encode (.illegal k) = [b1] ∧
    (∀ rest, decode (b1 :: rest) = .ok (.illegal k, rest)) ∧
    ∀ s, exec (.illegal k) s = .next { s with fault := some (.illegalOpcode (s.pc - 1) [b1]) }

/-- No instruction faults or is refused for its operands: exec always answers a next state. -/
def Obligations.EveryInstructionCompletes : Prop :=
  ∀ (i : Instr) (s : State), ∃ t, exec i s = .next t ∧ (canFault i = false → t.fault = s.fault)

/-- The step of a ready core is exec of the decoded instruction, with the fetch and the accounting around it. -/
def Obligations.StepRunsTheDecodedInstruction : Prop :=
  ∀ (s : State) (i : Instr) (rest : List Byte), Ready s → decode (bytesAtPc s) = .ok (i, rest) →
    step s =
      match exec i (fetchedState s (instrLength (s.peek s.pc))) with
      | .next t =>
        .next (match t.fault with
          | some record => { t with ret := some (.fault record) }
          | none =>
            let cost := if s.peek s.pc = 0xCB then secondaryCost (s.peek (s.pc + 1)) + (if s.cfg.cbPrefixCharged then 4 else 0)
              else primaryCost (s.peek s.pc)
            let u := { t with
              ticks := t.ticks + BitVec.ofNat 32 cost
              ret := some (.executed (cost + t.extra))
              extra := 0 }
            if u.cfg.eiDelay = true ∧ s.imePending = true ∧ u.imePending = true
            then { u with ime := true, imePending := false } else u)
      | .fault r => .fault r
      | .refused r => .refused r

/-- Every step of a ready core answers a next state, whatever bytes stand at PC. -/
def Obligations.ReadyStepCompletes : Prop :=
  ∀ s : State, Ready s → ∃ t, step s = .next t ∧
    ((t.fault = none ∧ ∃ n, t.ret = some (.executed n)) ∨ (∃ record, t.fault = some record ∧ t.ret = some (.fault record)))

/-- The step of a halted or stopped core adds 4 ticks and changes nothing else (R91). A quiescent core (R282) stays so under every move but the external reset, which begins a new run (R274). The agenda (log entry 9), the memory change (log entry 5) and the field acted (log entry 17) are the model's choice. -/
def Obligations.IdleStep : Prop :=
  (∀ s : State, s.agenda = [] → s.fault = none → s.run ≠ .running →
    step s = .next { s with ticks := s.ticks + 4, acted := false, bus := [], extra := 0, ret := some (.idle 4) }) ∧
  (∀ s t : State, s.Quiescent → step s = .next t → (∀ init rest, s.agenda ≠ .reset init :: rest) →
    t.Quiescent ∧ t = { s with
      ticks := t.ticks, mem := t.mem, agenda := t.agenda, acted := t.acted, bus := t.bus, extra := 0, ret := t.ret })

/-- The step of a faulted core returns the latched record and changes nothing. -/
def Obligations.LatchedFaultStep : Prop :=
  ∀ (s : State) (record : Fault), s.agenda = [] → s.fault = some record → step s = .fault record

/-- The step at an illegal byte, and at an unwired selector: precise, with PC past the opcode bytes only. -/
def Obligations.FaultingSteps : Prop :=
  (∀ s : State, Ready s → s.peek s.pc ∈ illegalSet →
    step s = .next { s with
      pc := s.pc + 1
      bus := [.read s.pc (s.peek s.pc)]
      acted := false
      extra := 0
      fault := some (.illegalOpcode s.pc [s.peek s.pc])
      ret := some (.fault (.illegalOpcode s.pc [s.peek s.pc])) }) ∧
  (∀ s : State, Ready s → s.peek s.pc = 0xCB → s.cfg.implements (s.peek (s.pc + 1)) = false →
    step s = .next { s with
      pc := s.pc + 2
      bus := [.read s.pc 0xCB, .read (s.pc + 1) (s.peek (s.pc + 1))]
      acted := false
      extra := 0
      fault := some (.unimplementedOpcode s.pc [0xCB, s.peek (s.pc + 1)])
      ret := some (.fault (.unimplementedOpcode s.pc [0xCB, s.peek (s.pc + 1)])) })

/-- A conditional not taken costs its base cost; taken, the base cost plus its surcharge; nothing else is data-dependent. -/
def Obligations.ConditionalCosts : Prop :=
  (∀ (s : State) (i : Instr) (rest : List Byte) (cc : Cond) (base surcharge : Nat), Ready s →
    decode (bytesAtPc s) = .ok (i, rest) →
    ((∃ e, i = .jrIf cc e) ∧ base = 8 ∧ surcharge = 4) ∨ ((∃ nn, i = .jpIf cc nn) ∧ base = 12 ∧ surcharge = 4) ∨
      ((∃ nn, i = .callIf cc nn) ∧ base = 12 ∧ surcharge = 12) ∨ (i = .retIf cc ∧ base = 8 ∧ surcharge = 12) →
    ∃ t, step s = .next t ∧
      t.ret = some (.executed (base + if holds s cc then surcharge else 0)) ∧
      t.ticks = s.ticks + BitVec.ofNat 32 (base + if holds s cc then surcharge else 0)) ∧
  (∀ (i : Instr) (s t : State), i.wf = true → ¬ isConditional i → exec i s = .next t → t.ticks = s.ticks ∧ t.extra = s.extra)

/-- EI under EI_DELAY takes effect after the next instruction; DI in between cancels it; without EI_DELAY the delay never runs. -/
def Obligations.DelayedEnable : Prop :=
  (∀ s : State, Ready s → s.peek s.pc = 0xFB → s.cfg.eiDelay = true → s.imePending = false →
    ∃ t, step s = .next t ∧ t.ime = s.ime ∧ t.imePending = !s.ime) ∧
  (∀ s t : State, Ready s → s.cfg.eiDelay = true → s.imePending = true → step s = .next t → t.fault = none →
    t.imePending = false ∧ (t.ime = true ↔ s.peek s.pc ≠ 0xF3)) ∧
  (∀ s t : State, s.agenda = [] → s.fault = none → step s = .next t → (s.run ≠ .running ∨ t.fault ≠ none) →
    t.ime = s.ime ∧ t.imePending = s.imePending) ∧
  (∀ s : State, Ready s → s.peek s.pc = 0xFB → s.cfg.eiDelay = false → ∃ t, step s = .next t ∧ t.ime = true) ∧
  (∀ s t : State, Ready s → s.cfg.eiDelay = false → s.peek s.pc ≠ 0xF3 → s.peek s.pc ≠ 0xFB → s.peek s.pc ≠ 0xD9 →
    step s = .next t → t.ime = s.ime ∧ t.imePending = s.imePending)

/-- Decoding is total: implemented, illegal or unimplemented, and the step follows the verdict. -/
def Obligations.ThreeWayVerdict : Prop :=
  (∀ (cfg : Config) (b1 b2 b3 : Byte),
    verdict cfg b1 b2 b3 =
      if b1 ∈ illegalSet then .illegal b1
      else if b1 = 0xCB ∧ cfg.implements b2 = false then .unimplemented b2
      else .implemented (decodeBytes b1 b2 b3)) ∧
  (∀ (cfg : Config) (b1 b2 b3 : Byte) (i : Instr), verdict cfg b1 b2 b3 = .implemented i →
    i.wf = true ∧ ∀ k : Fin 11, i ≠ .illegal k) ∧
  (∀ (s t : State), Ready s → step s = .next t →
    (t.fault = none ↔ ∃ i, verdict s.cfg (s.peek s.pc) (s.peek (s.pc + 1)) (s.peek (s.pc + 2)) = .implemented i))

/-- Decoding the bytes of any well-formed instruction gives it back, with every operand. -/
def Obligations.DecodeOfEncode : Prop :=
  ∀ (i : Instr) (rest : List Byte), i.wf = true →
    decode (encode i ++ rest) = .ok (i, rest) ∧ (encode i).length = instrLength ((encode i).headD 0) ∧
      1 ≤ (encode i).length ∧ (encode i).length ≤ 3

/-- Encoding a decoded instruction gives back its bytes: no bit of them is ignored. -/
def Obligations.EncodeOfDecode : Prop :=
  (∀ (bs : List Byte) (i : Instr) (rest : List Byte), decode bs = .ok (i, rest) → i.wf = true ∧ bs = encode i ++ rest) ∧
  (∀ b1 tail, instrLength b1 ≤ tail.length + 1 → ∃ i rest, decode (b1 :: tail) = .ok (i, rest))

/-- Words written out from the spec decode to their instructions. -/
def Obligations.SampleWordsDecode : Prop :=
  decode [0x00] = .ok (.nop, []) ∧ decode [0x01, 0x34, 0x12] = .ok (.ld_BC_d16 0x1234, []) ∧
  decode [0x34] = .ok (.inc_mHL, []) ∧ decode [0x27] = .ok (.daa, []) ∧ decode [0x38, 0x05] = .ok (.jr_C_e8 0x05, []) ∧
  decode [0x50] = .ok (.ld_D_B, []) ∧ decode [0x76] = .ok (.halt, []) ∧ decode [0x9E] = .ok (.sbc_A_mHL, []) ∧
  decode [0xFE, 0x40] = .ok (.cp_d8 0x40, []) ∧ decode [0xE8, 0xFF] = .ok (.add_SP_e8 0xFF, []) ∧
  decode [0xCD, 0x50, 0x01] = .ok (.call_a16 0x0150, []) ∧ decode [0xEF] = .ok (.rst_28, []) ∧
  decode [0xF1] = .ok (.pop_AF, []) ∧ decode [0xD3] = .ok (.illegal_D3, []) ∧
  decode [0xCB, 0x37] = .ok (.swap_r .a, []) ∧ decode [0xCB, 0x7E] = .ok (.bit_b_mHL 7, [])

/-- Resume and Divert: what each changes, from every state in which it is the first action since the last step and allowed. -/
def Obligations.ResumeAndDivertMoves : Prop :=
  (∀ (s : State) (rest : List Move), s.agenda = .resume :: rest → s.fault = none → s.acted = false →
    s.run ≠ .running → step s = .next { s with run := .running, acted := true, agenda := rest, bus := [], extra := 0, ret := none }) ∧
  (∀ (s : State) (rest : List Move) (vector : Word), s.agenda = .divert vector :: rest → s.fault = none → s.acted = false →
    s.ime = true →
    step s = .next { pushed { s with agenda := rest, bus := [], extra := 0, ret := none } s.pc with
      pc := vector, ime := false, imePending := false, run := .running, acted := true })

/-- Divert without IME, Resume or Divert on a faulted core, and a second action between two steps are refused. That Resume of a running core has a move (log entry 10) and that a memory change has one (log entry 5) is the model's choice, and acted is the model's own field (log entry 17). -/
def Obligations.OtherMoves : Prop :=
  (∀ (s : State) (rest : List Move) (vector : Word), s.agenda = .divert vector :: rest → s.fault = none → s.ime = false →
    step s = .refused .divertWhileDisabled) ∧
  (∀ (s : State) (rest : List Move) (vector : Word), s.fault ≠ none →
    (s.agenda = .resume :: rest → step s = .refused .actionWhileFaulted) ∧
    (s.agenda = .divert vector :: rest → step s = .refused .actionWhileFaulted)) ∧
  (∀ (s : State) (rest : List Move) (vector : Word), s.fault = none → s.acted = true →
    (s.agenda = .resume :: rest → step s = .refused .secondAction) ∧
    (s.agenda = .divert vector :: rest → s.ime = true → step s = .refused .secondAction)) ∧
  (∀ (s : State) (rest : List Move), s.agenda = .resume :: rest → s.fault = none → s.acted = false → s.run = .running →
    step s = .next { s with agenda := rest, acted := true, bus := [], extra := 0, ret := none }) ∧
  (∀ (s : State) (rest : List Move) (addr : Word) (v : Byte), s.agenda = .memoryChange addr v :: rest →
    step s = .next { s with
      mem := Memory.write s.mem addr.toNat v, agenda := rest, bus := [], extra := 0, ret := none })

/-- An external reset starts a new run from any admitted initial state (the model's choice, log entry 11); memory and parameters stay. -/
def Obligations.ExternalReset : Prop :=
  ∀ (s : State) (rest : List Move) (n : InitState), s.agenda = .reset n :: rest →
    (n.f &&& 0x0F = 0 → step s = .next
      { a := n.a, b := n.b, c := n.c, d := n.d, e := n.e, h := n.h, l := n.l, f := n.f, sp := n.sp, pc := n.pc,
        ticks := n.ticks, ime := n.ime, run := n.run, fault := none, imePending := false, cfg := s.cfg, mem := s.mem,
        agenda := rest, acted := false, bus := [], extra := 0, ret := none }) ∧
    (n.f &&& 0x0F ≠ 0 → step s = .refused .initStateNotAdmitted)

/-- RETI returns to the diverted point and sets IME again. -/
def Obligations.DivertThenReti : Prop :=
  ∀ (s : State) (vector : Word), s.MemoryCanonical → s.fault = none → s.acted = false → s.ime = true →
    ∃ t u, s.divert vector = .next t ∧ exec .reti t = .next u ∧ u.pc = s.pc ∧ u.sp = s.sp ∧ u.ime = true ∧
      u.imePending = false ∧ u.run = .running ∧ u.f = s.f ∧ u.ticks = s.ticks ∧ ∀ r, u.reg8 r = s.reg8 r

/-- The reset state is preset P0 of R35: the model's choice, log entry 2, not a rule of the spec; and the invariants hold of it. -/
def Obligations.ResetIsPresetP0 : Prop :=
  (State.reset.a = 0 ∧ State.reset.b = 0 ∧ State.reset.c = 0 ∧ State.reset.d = 0 ∧ State.reset.e = 0 ∧ State.reset.h = 0 ∧
    State.reset.l = 0 ∧ State.reset.f = 0 ∧ State.reset.sp = 0 ∧ State.reset.pc = 0 ∧ State.reset.ticks = 0 ∧
    State.reset.ime = false ∧ State.reset.run = .running ∧ State.reset.fault = none ∧ State.reset.imePending = false ∧
    State.reset.mem = []) ∧
  State.reset.FlagLowNibbleZero ∧ State.reset.MemoryCanonical ∧ State.reset.PendingSound ∧ State.reset.LatchSound ∧
  State.reset.NoSurchargeLeft

/-- Every move keeps the low nibble of F at 0. -/
def Obligations.FlagLowNibbleStaysZero : Prop :=
  ∀ s t : State, s.FlagLowNibbleZero → step s = .next t → t.FlagLowNibbleZero

/-- Every move keeps the memory in its canonical form: rising addresses of the 16-bit space (R51), no cell equal to the unlisted byte. The form is the model's choice: the array of log entry 5 and the unlisted byte of log entry 6. -/
def Obligations.MemoryStaysCanonical : Prop :=
  ∀ s t : State, s.MemoryCanonical → step s = .next t → t.MemoryCanonical

/-- ime_pending is set only under EI_DELAY and never beside IME. -/
def Obligations.PendingEnableStaysSound : Prop :=
  ∀ s t : State, s.PendingSound → step s = .next t → t.PendingSound

/-- A latched fault always records bytes that fault, their address, and a PC just past them. -/
def Obligations.FaultLatchStaysSound : Prop :=
  ∀ s t : State, s.LatchSound → step s = .next t → t.LatchSound

/-- No move writes a parameter; each move takes at most one entry off the agenda and leaves no surcharge (the model's own fields, log entries 9 and 8). -/
def Obligations.ParametersNeverChange : Prop :=
  ∀ s t : State, step s = .next t → t.cfg = s.cfg ∧ t.agenda = s.agenda.tail ∧ t.NoSurchargeLeft

/-- Every instruction writes exactly the flags its row of the flags column gives, and never the low nibble except by POP AF. -/
def Obligations.FlagFrame : Prop :=
  ∀ (i : Instr) (s t : State), i.wf = true → s.fault = none → exec i s = .next t →
    (t.fault = none →
      (flagColumn i).z.allows (zf s) (zf t) ∧ (flagColumn i).n.allows (nf s) (nf t) ∧
      (flagColumn i).h.allows (hf s) (hf t) ∧ (flagColumn i).c.allows (cf s) (cf t) ∧
      (t.f &&& 0x0F = if i = .pop_AF then 0 else s.f &&& 0x0F)) ∧
    (t.fault ≠ none → t.f = s.f)

/-- Every 8-bit register but the destinations, and SP but for the rows that write it, is unchanged. -/
def Obligations.RegisterFrame : Prop :=
  ∀ (i : Instr) (s t : State), i.wf = true → exec i s = .next t →
    (∀ r, r ∉ destRegs i → t.reg8 r = s.reg8 r) ∧ (writesSp i = false → t.sp = s.sp)

/-- Every byte but those a row stores to reads as before, and the writes on the bus are exactly those, in order. -/
def Obligations.MemoryFrame : Prop :=
  ∀ (i : Instr) (s t : State), i.wf = true → exec i s = .next t →
    (∀ addr, addr ∉ storeAddrs i s → t.peek addr = s.peek addr) ∧ writesOf t.bus = writesOf s.bus ++ storeAddrs i s

/-- Only HALT, STOP, DI, EI and RETI change control state; only faulting rows touch the latch. -/
def Obligations.ControlFrame : Prop :=
  ∀ (i : Instr) (s t : State), i.wf = true → exec i s = .next t →
    (i ≠ .halt → i ≠ .stop → i ≠ .di → i ≠ .ei → i ≠ .reti → t.ime = s.ime ∧ t.imePending = s.imePending ∧ t.run = s.run) ∧
    (i = .halt ∨ i = .stop → t.ime = s.ime ∧ t.imePending = s.imePending) ∧
    (i = .di ∨ i = .ei ∨ i = .reti → t.run = s.run) ∧
    (canFault i = false → t.fault = s.fault) ∧ t.cfg = s.cfg ∧ t.agenda = s.agenda ∧ t.acted = s.acted ∧ t.ret = s.ret

/-- Time is not behaviour: a run that differs only in ticks differs only in ticks afterwards. -/
def Obligations.TicksAreNotRead : Prop :=
  ∀ (s : State) (n : Ticks), s.agenda = [] →
    step { s with ticks := s.ticks + n } =
      match step s with
      | .next t => .next { t with ticks := t.ticks + n }
      | .fault r => .fault r
      | .refused r => .refused r

/-- PUSH then POP of the same pair restores the pair and SP, for every SP, wrap included. -/
def Obligations.StackRoundTrip : Prop :=
  ∀ (s : State) (q : StackReg), s.MemoryCanonical → (q = .af → s.FlagLowNibbleZero) →
    ∃ t u, exec (.push q) s = .next t ∧ exec (.pop q) t = .next u ∧ u.sp = s.sp ∧ u.f = s.f ∧ (∀ r, u.reg8 r = s.reg8 r) ∧
      u.peek (s.sp - 1) = (s.stackReg q).extractLsb' 8 8 ∧ u.peek (s.sp - 2) = (s.stackReg q).extractLsb' 0 8

/-- Each code names its register; the 16-bit views compose and decompose their halves; writing one flag changes one bit of F. -/
def Obligations.ViewsAndFlagAccess : Prop :=
  (∀ s : State, s.reg8 .b = s.b ∧ s.reg8 .c = s.c ∧ s.reg8 .d = s.d ∧ s.reg8 .e = s.e ∧ s.reg8 .h = s.h ∧
    s.reg8 .l = s.l ∧ s.reg8 .a = s.a) ∧
  (∀ (s : State) (v : Byte), s.setReg8 .b v = { s with b := v } ∧ s.setReg8 .c v = { s with c := v } ∧
    s.setReg8 .d v = { s with d := v } ∧ s.setReg8 .e v = { s with e := v } ∧ s.setReg8 .h v = { s with h := v } ∧
    s.setReg8 .l v = { s with l := v } ∧ s.setReg8 .a v = { s with a := v }) ∧
  (∀ s : State, s.reg16 .bc = s.bc ∧ s.reg16 .de = s.de ∧ s.reg16 .hl = s.hl ∧ s.reg16 .sp = s.sp) ∧
  (∀ (s : State) (v : Word),
    s.setReg16 .bc v = { s with b := v.extractLsb' 8 8, c := v.extractLsb' 0 8 } ∧
    s.setReg16 .de v = { s with d := v.extractLsb' 8 8, e := v.extractLsb' 0 8 } ∧
    s.setReg16 .hl v = { s with h := v.extractLsb' 8 8, l := v.extractLsb' 0 8 } ∧ s.setReg16 .sp v = { s with sp := v }) ∧
  (∀ s : State, s.stackReg .bc = s.bc ∧ s.stackReg .de = s.de ∧ s.stackReg .hl = s.hl ∧ s.stackReg .af = s.af) ∧
  (∀ (s : State) (v : Word), s.setStackReg .bc v = s.setReg16 .bc v ∧ s.setStackReg .de v = s.setReg16 .de v ∧
    s.setStackReg .hl v = s.setReg16 .hl v ∧
    s.setStackReg .af v = { s with a := v.extractLsb' 8 8, f := v.extractLsb' 0 8 &&& 0xF0 }) ∧
  (∀ s : State, s.bc.toNat = s.b.toNat * 256 + s.c.toNat ∧ s.de.toNat = s.d.toNat * 256 + s.e.toNat ∧
    s.hl.toNat = s.h.toNat * 256 + s.l.toNat ∧ s.af.toNat = s.a.toNat * 256 + s.f.toNat) ∧
  (∀ (s : State) (v : Word), (s.setReg16 .bc v).bc = v ∧ (s.setReg16 .de v).de = v ∧ (s.setReg16 .hl v).hl = v ∧
    (s.setStackReg .af v).af = v &&& 0xFFF0) ∧
  (∀ (s : State) (v : Byte), (s.setReg8 .b v).bc = v ++ s.c ∧ (s.setReg8 .c v).bc = s.b ++ v ∧
    (s.setReg8 .d v).de = v ++ s.e ∧ (s.setReg8 .e v).de = s.d ++ v ∧ (s.setReg8 .h v).hl = v ++ s.l ∧
    (s.setReg8 .l v).hl = s.h ++ v ∧ (s.setReg8 .a v).af = v ++ s.f) ∧
  (∀ (s : State) (x y : Flag) (v : Bool), (s.setFlag x v).flag y = (if y = x then v else s.flag y) ∧
    (s.setFlag x v).f &&& 0x0F = s.f &&& 0x0F ∧ (s.setFlag x v).af = s.a ++ (s.setFlag x v).f ∧
    s.setFlag x v = { s with f := (s.setFlag x v).f })
end

