-- ==== Sys2Proof/Laws/Decode.lean ====
section
/-! SUPPORT. The decoder on strings long enough, and the bit fields of an opcode byte. -/

namespace Sys2Proof

/-- Every length is 1, 2 or 3 (R70). -/
theorem instrLength_cases (b1 : Byte) : instrLength b1 = 1 ∨ instrLength b1 = 2 ∨ instrLength b1 = 3 := by
  revert b1; decide

/-- A string that begins with a one-byte instruction. -/
theorem decode_one {b1 : Byte} (h : instrLength b1 = 1) (rest : List Byte) :
    decode (b1 :: rest) = .ok (decodeBytes b1 (rest.getD 0 0) (rest.getD 1 0), rest) := by
  simp [decode, h]

/-- A string that begins with a two-byte instruction. -/
theorem decode_two {b1 : Byte} (h : instrLength b1 = 2) (b2 : Byte) (rest : List Byte) :
    decode (b1 :: b2 :: rest) = .ok (decodeBytes b1 b2 (rest.getD 0 0), rest) := by
  simp [decode, h]

/-- A string that begins with a three-byte instruction. -/
theorem decode_three {b1 : Byte} (h : instrLength b1 = 3) (b2 b3 : Byte) (rest : List Byte) :
    decode (b1 :: b2 :: b3 :: rest) = .ok (decodeBytes b1 b2 b3, rest) := by
  simp [decode, h]

/-- The first bytes of the one-byte instructions, by quadrant of the primary table (R70). -/
theorem instrLength_one_cases {b1 : Byte} (h : instrLength b1 = 1) :
    fieldX b1 = 1 ∨ fieldX b1 = 2 ∨
    b1 ∈ ([0x00, 0x02, 0x03, 0x04, 0x05, 0x07, 0x09, 0x0A, 0x0B, 0x0C, 0x0D, 0x0F, 0x10, 0x12, 0x13, 0x14, 0x15, 0x17,
      0x19, 0x1A, 0x1B, 0x1C, 0x1D, 0x1F, 0x22, 0x23, 0x24, 0x25, 0x27, 0x29, 0x2A, 0x2B, 0x2C, 0x2D, 0x2F, 0x32,
      0x33, 0x34, 0x35, 0x37, 0x39, 0x3A, 0x3B, 0x3C, 0x3D, 0x3F] : List Byte) ∨
    b1 ∈ ([0xC0, 0xC1, 0xC5, 0xC7, 0xC8, 0xC9, 0xCF, 0xD0, 0xD1, 0xD3, 0xD5, 0xD7, 0xD8, 0xD9, 0xDB, 0xDD, 0xDF, 0xE1,
      0xE2, 0xE3, 0xE4, 0xE5, 0xE7, 0xE9, 0xEB, 0xEC, 0xED, 0xEF, 0xF1, 0xF2, 0xF3, 0xF4, 0xF5, 0xF7, 0xF9, 0xFB,
      0xFC, 0xFD, 0xFF] : List Byte) := by
  revert h
  revert b1
  decide

/-- The two inner quadrants have no operand bytes (R81). -/
theorem decodeBytes_inner {b1 : Byte} (h : fieldX b1 = 1 ∨ fieldX b1 = 2) (b2 b3 : Byte) :
    decodeBytes b1 b2 b3 = decodeBytes b1 0 0 := by
  have hne : ¬ b1 = 203#8 := by
    rintro rfl
    revert h
    decide
  rcases h with h | h <;> simp [decodeBytes, hne, primaryTable, h, pick4]

/-- The bytes an instruction does not have are not looked at: one byte. -/
theorem decodeBytes_one {b1 : Byte} (h : instrLength b1 = 1) (b2 b3 : Byte) : decodeBytes b1 b2 b3 = decodeBytes b1 0 0 := by
  rcases instrLength_one_cases h with hx | hx | hm | hm
  · exact decodeBytes_inner (.inl hx) b2 b3
  · exact decodeBytes_inner (.inr hx) b2 b3
  · simp only [List.mem_cons, List.not_mem_nil, or_false] at hm
    rcases hm with rfl | rfl | rfl | rfl | rfl | rfl | rfl | rfl | rfl | rfl | rfl | rfl | rfl | rfl | rfl |
      rfl | rfl | rfl | rfl | rfl | rfl | rfl | rfl | rfl | rfl | rfl | rfl | rfl | rfl | rfl | rfl | rfl |
      rfl | rfl | rfl | rfl | rfl | rfl | rfl | rfl | rfl | rfl | rfl | rfl | rfl | rfl <;>
      simp [decodeBytes, primaryTable, fieldX, fieldY, fieldZ, pick4, pick8, quadrant0]
  · simp only [List.mem_cons, List.not_mem_nil, or_false] at hm
    rcases hm with rfl | rfl | rfl | rfl | rfl | rfl | rfl | rfl | rfl | rfl | rfl | rfl | rfl | rfl | rfl |
      rfl | rfl | rfl | rfl | rfl | rfl | rfl | rfl | rfl | rfl | rfl | rfl | rfl | rfl | rfl | rfl | rfl |
      rfl | rfl | rfl | rfl | rfl | rfl | rfl <;>
      simp [decodeBytes, primaryTable, fieldX, fieldY, fieldZ, pick4, pick8, quadrant3]

/-- The first bytes of the two-byte instructions (R70). -/
theorem instrLength_two_cases {b1 : Byte} (h : instrLength b1 = 2) :
    b1 = 0xCB ∨ b1 ∈ ([0x06, 0x0E, 0x16, 0x1E, 0x26, 0x2E, 0x36, 0x3E, 0x18, 0x20, 0x28, 0x30, 0x38, 0xC6, 0xCE, 0xD6,
      0xDE, 0xE6, 0xEE, 0xF6, 0xFE, 0xE0, 0xF0, 0xE8, 0xF8] : List Byte) := by
  revert h
  revert b1
  decide

/-- The bytes an instruction does not have are not looked at: two bytes. -/
theorem decodeBytes_two {b1 : Byte} (h : instrLength b1 = 2) (b2 b3 : Byte) : decodeBytes b1 b2 b3 = decodeBytes b1 b2 0 := by
  rcases instrLength_two_cases h with rfl | hm
  · simp only [decodeBytes, if_true]
  · simp only [List.mem_cons, List.not_mem_nil, or_false] at hm
    rcases hm with rfl | rfl | rfl | rfl | rfl | rfl | rfl | rfl | rfl | rfl | rfl | rfl | rfl | rfl | rfl | rfl | rfl | rfl
      | rfl | rfl | rfl | rfl | rfl | rfl | rfl <;>
      simp [decodeBytes, primaryTable, fieldX, fieldY, fieldZ, pick4, pick8, quadrant0, quadrant3]

@[simp] theorem fieldX_opByte (x : BitVec 2) (y z : BitVec 3) : fieldX (opByte x y z) = x := by
  revert x y z; decide

@[simp] theorem fieldY_opByte (x : BitVec 2) (y z : BitVec 3) : fieldY (opByte x y z) = y := by
  revert x y z; decide

@[simp] theorem fieldZ_opByte (x : BitVec 2) (y z : BitVec 3) : fieldZ (opByte x y z) = z := by
  revert x y z; decide

/-- An opcode byte is made of its fields. -/
theorem opByte_fields (op : Byte) : opByte (fieldX op) (fieldY op) (fieldZ op) = op := by
  revert op; decide

@[simp] theorem targetOfCode_targetCode (t : Target8) : targetOfCode (targetCode t) = t := by
  cases t with
  | reg r => cases r <;> rfl
  | ind => rfl

@[simp] theorem targetCode_targetOfCode (k : BitVec 3) : targetCode (targetOfCode k) = k := by
  revert k; decide

@[simp] theorem word_hi_lo (v : Word) : word (hiByte v) (loByte v) = v := by
  simp only [word, hiByte, loByte]
  exact BitVec.extractLsb'_append_extractLsb'_eq_extractLsb' (w := 16) (by omega) |>.trans (by simp)

/-- A concatenation is high byte times 256 plus low byte (R8). -/
theorem word_toNat (hi lo : Byte) : (word hi lo).toNat = hi.toNat * 256 + lo.toNat := by
  simp only [word, BitVec.toNat_append]
  rw [← Nat.shiftLeft_add_eq_or_of_lt lo.isLt, Nat.shiftLeft_eq]

@[simp] theorem hiByte_word (hi lo : Byte) : hiByte (word hi lo) = hi := by
  apply BitVec.eq_of_toNat_eq
  have h := lo.isLt
  have h' := hi.isLt
  simp only [hiByte, BitVec.extractLsb'_toNat, word_toNat]
  omega

@[simp] theorem loByte_word (hi lo : Byte) : loByte (word hi lo) = lo := by
  apply BitVec.eq_of_toNat_eq
  have h := lo.isLt
  simp only [loByte, BitVec.extractLsb'_toNat, word_toNat]
  omega

end Sys2Proof
end

