-- ==== Sys2Proof/Laws/Cycle.lean ====
section
/-! SUPPORT. What the fetch leaves, and which of its cases a step is in: cite these instead of unfolding the cycle. -/

namespace Sys2Proof.Machine

/-- The reads of the three bytes at `PC`. -/
def State.readsAtPc (s : State) : List Access :=
  [.read s.pc (s.peek s.pc), .read (s.pc + 1) (s.peek (s.pc + 1)), .read (s.pc + 2) (s.peek (s.pc + 2))]

theorem State.fetchByte_eq (s : State) :
    s.fetchByte = (s.peek s.pc, { s with pc := s.pc + 1, bus := s.bus ++ [.read s.pc (s.peek s.pc)] }) := rfl

/-- Everything the fetch does (R28, R56, R70, R86): the instruction at `PC`, with `PC` past it and its bytes read in order. -/
theorem State.fetch_eq (s : State) :
    s.fetch = {
      instr := decodeBytes (s.peek s.pc) (s.peek (s.pc + 1)) (s.peek (s.pc + 2))
      b1 := s.peek s.pc
      b2 := if instrLength (s.peek s.pc) = 1 then 0 else s.peek (s.pc + 1)
      state := { s with
        pc := s.pc + BitVec.ofNat 16 (instrLength (s.peek s.pc))
        bus := s.bus ++ s.readsAtPc.take (instrLength (s.peek s.pc)) } } := by
  have e2 : s.pc + 1#16 + 1#16 = s.pc + 2#16 := by rw [BitVec.add_assoc]; rfl
  have e3 : s.pc + 2#16 + 1#16 = s.pc + 3#16 := by rw [BitVec.add_assoc]; rfl
  rcases instrLength_cases (s.peek s.pc) with h | h | h
  · rw [decodeBytes_one h (s.peek (s.pc + 1)) (s.peek (s.pc + 2))]
    simp [State.fetch, State.fetchByte_eq s, h, State.readsAtPc]
  · rw [decodeBytes_two h (s.peek (s.pc + 1)) (s.peek (s.pc + 2))]
    simp [State.fetch, State.fetchByte_eq, h, State.readsAtPc, e2]
    exact ⟨rfl, rfl⟩
  · simp only [State.fetch, State.fetchByte_eq, h]
    simp [State.readsAtPc, e2, e3]
    exact ⟨rfl, rfl, rfl⟩

/-- The second byte counts towards the cost of the escape only (R90). -/
theorem chargedCost_of_ne {b1 : Byte} (h : b1 ≠ 0xCB) (cfg : Config) (b2 : Byte) :
    chargedCost cfg b1 b2 = primaryCost b1 := if_neg h

/-- The step of a core with no move due, by its latch and its run-state (R86, R91, R244). -/
theorem step_eq {s : State} (hm : s.agenda = []) :
    step s = match s.fault with
      | some record => .fault record
      | none => if s.run = .running then runStep s.beginMove.beginStep else .next s.beginMove.beginStep.idleStep := by
  simp only [step, nextMove, hm, makeMove, coreStep]
  rfl

/-- The step in which a move of an outside agent is due (R249). -/
theorem step_of_move {s : State} {m : Move} {rest : List Move} (hm : s.agenda = m :: rest) :
    step s = makeMove m { s.beginMove with agenda := rest } := by
  simp only [step, nextMove, hm]

/-- A running step in terms of `exec`: fetch, run, account (R86). -/
theorem runStep_eq {s t : State} (h : exec s.fetch.instr s.fetch.state = .next t) :
    runStep s = .next (t.endStep s.imePending (chargedCost s.cfg s.fetch.b1 s.fetch.b2)) := by
  simp only [runStep, h]

/-- What the end of a step that faulted leaves (R243). -/
theorem State.endStep_of_fault {t : State} {record : Fault} (h : t.fault = some record) (pend : Bool) (cost : Nat) :
    t.endStep pend cost = { t with ret := some (.fault record) } := by
  simp only [State.endStep, h]

/-- What the end of a step that did not fault leaves (R86). -/
theorem State.endStep_of_none {t : State} (h : t.fault = none) (pend : Bool) (cost : Nat) :
    t.endStep pend cost = t.finishStep pend cost := by
  simp only [State.endStep, h]

/-- The end of a step writes `ticks`, `extra`, `ret`, IME and the pending enable, and nothing else. -/
theorem State.endStep_frame (t : State) (pend : Bool) (cost : Nat) :
    ∃ ticks ime imePending extra ret,
      t.endStep pend cost = { t with ticks := ticks, ime := ime, imePending := imePending, extra := extra, ret := ret } := by
  unfold State.endStep
  split
  · exact ⟨t.ticks, t.ime, t.imePending, t.extra, _, rfl⟩
  · unfold State.finishStep State.addTicks
    dsimp only
    split
    · exact ⟨_, _, _, _, _, rfl⟩
    · exact ⟨_, _, _, _, _, rfl⟩

end Sys2Proof.Machine
end

