-- ==== Sys2Proof/Laws/Flags.lean ====
section
/-! SUPPORT. What the flag writes and the flag-computing primitives give, in numbers: cite these instead of unfolding the
bit operations of Machine/Flags.lean. -/

namespace Sys2Proof.Machine

/-- Writing one bit of a byte (R24). -/
theorem writeBit_getLsbD (v : Byte) (i : Nat) (x : Bool) (j : Nat) (hj : j < 8) :
    (writeBit v i x).getLsbD j = if j = i then x else v.getLsbD j := by
  unfold writeBit
  cases x <;> by_cases h : j = i
  · subst h
    simp [hj]
  · have : ¬ (j - i = 0 ∧ ¬ j < i) := by omega
    by_cases hlt : j < i
    · simp [hj, h, hlt]
    · have hne : j - i ≠ 0 := by omega
      simp [hj, h, hne]
  · subst h
    simp [hj]
  · by_cases hlt : j < i
    · simp [hj, h, hlt]
    · have hne : j - i ≠ 0 := by omega
      simp [hj, h, hne]

/-- A bit test by mask, as a bit. -/
theorem and_mask4 (v : Byte) : (v &&& 0x10 != 0) = v.getLsbD 4 := by
  revert v; decide

/-- Bit `i` of a byte as a number. -/
theorem getLsbD_div (v : Byte) (i : Nat) : v.getLsbD i = decide (v.toNat / 2 ^ i % 2 = 1) :=
  Nat.testBit_eq_decide_div_mod_eq

/-- The exclusive or of three parities is the parity of the sum. -/
theorem xor3_parity (x y z : Nat) :
    ((decide (x % 2 = 1) ^^ decide (y % 2 = 1)) ^^ decide (z % 2 = 1)) = decide ((x + y + z) % 2 = 1) := by
  rcases Nat.mod_two_eq_zero_or_one x with hx | hx <;> rcases Nat.mod_two_eq_zero_or_one y with hy | hy <;>
    rcases Nat.mod_two_eq_zero_or_one z with hz | hz <;> simp [Nat.add_mod, hx, hy, hz]

/-- The half carry of an addition, from the exclusive-or form of R101. -/
theorem halfCarry_add (a b : Byte) (n : Nat) (hn : n ≤ 1) :
    ((a ^^^ b ^^^ BitVec.ofNat 8 (a.toNat + b.toNat + n)) &&& 0x10 != 0) = decide (a.toNat % 16 + b.toNat % 16 + n > 15) := by
  rw [and_mask4, BitVec.getLsbD_xor, BitVec.getLsbD_xor, getLsbD_div, getLsbD_div, getLsbD_div, BitVec.toNat_ofNat,
    xor3_parity, decide_eq_decide]
  have ha := a.isLt
  have hb := b.isLt
  omega

/-- `Add8` in numbers (R101, R118). -/
theorem add8_eq (a b : Byte) (cin : Bool) :
    add8 a b cin = {
      res := BitVec.ofNat 8 (a.toNat + b.toNat + cin.toNat)
      z := decide ((a.toNat + b.toNat + cin.toNat) % 256 = 0)
      n := false
      h := decide (a.toNat % 16 + b.toNat % 16 + cin.toNat > 15)
      c := decide (a.toNat + b.toNat + cin.toNat > 255) } := by
  have ha := a.isLt
  have hb := b.isLt
  have hc : cin.toNat ≤ 1 := Bool.toNat_le cin
  simp only [add8, AluResult.mk.injEq, true_and]
  refine ⟨?_, halfCarry_add a b cin.toNat hc, ?_⟩
  · rw [Bool.eq_iff_iff, beq_iff_eq, decide_eq_true_eq, ← BitVec.toNat_inj, BitVec.toNat_ofNat]
    rfl
  · have hs : a.toNat + b.toNat + cin.toNat < 512 := by omega
    generalize a.toNat + b.toNat + cin.toNat = w at hs
    have hw : w &&& 0x100 = w / 256 % 2 * 256 := by
      have := Nat.and_two_pow w 8
      rw [show (0x100 : Nat) = 2 ^ 8 from rfl, this, Nat.toNat_testBit]
    rw [hw, Bool.eq_iff_iff, bne_iff_ne, decide_eq_true_eq]
    omega

/-- The half borrow of a subtraction, from the exclusive-or form of R102. -/
theorem halfBorrow_sub (a b : Byte) (n : Nat) (hn : n ≤ 1) :
    ((a ^^^ b ^^^ BitVec.ofInt 8 ((a.toNat : Int) - b.toNat - n)) &&& 0x10 != 0) = decide (a.toNat % 16 < b.toNat % 16 + n) := by
  have ha := a.isLt
  have hb := b.isLt
  have hr : (BitVec.ofInt 8 ((a.toNat : Int) - b.toNat - n)).toNat = (a.toNat + 512 - b.toNat - n) % 256 := by
    rw [BitVec.toNat_ofInt]
    omega
  rw [and_mask4, BitVec.getLsbD_xor, BitVec.getLsbD_xor, getLsbD_div, getLsbD_div, getLsbD_div, hr, xor3_parity,
    decide_eq_decide]
  omega

/-- `Sub8` in numbers (R102). -/
theorem sub8_eq (a b : Byte) (cin : Bool) :
    sub8 a b cin = {
      res := BitVec.ofInt 8 ((a.toNat : Int) - b.toNat - cin.toNat)
      z := decide ((a.toNat + 256 - b.toNat - cin.toNat) % 256 = 0)
      n := true
      h := decide (a.toNat % 16 < b.toNat % 16 + cin.toNat)
      c := decide (a.toNat < b.toNat + cin.toNat) } := by
  have ha := a.isLt
  have hb := b.isLt
  have hc : cin.toNat ≤ 1 := Bool.toNat_le cin
  simp only [sub8, AluResult.mk.injEq, true_and]
  refine ⟨?_, halfBorrow_sub a b cin.toNat hc, ?_⟩
  · rw [Bool.eq_iff_iff, beq_iff_eq, decide_eq_true_eq, ← BitVec.toNat_inj, BitVec.toNat_ofInt]
    simp only [BitVec.ofNat_eq_ofNat, BitVec.toNat_ofNat]
    omega
  · rw [← BitVec.testBit_toNat, Nat.testBit_eq_decide_div_mod_eq, BitVec.toNat_ofInt, decide_eq_decide]
    omega

/-- `INC` of a byte in numbers (R111). -/
theorem inc8_eq (v : Byte) : inc8 v = (v + 1, decide (v = 0xFF), decide (v.toNat % 16 = 15)) := by
  revert v; decide

/-- `DEC` of a byte in numbers (R112). -/
theorem dec8_eq (v : Byte) : dec8 v = (v - 1, decide (v = 0x01), decide (v.toNat % 16 = 0)) := by
  revert v; decide

/-- The flags after `Zf`, `Nf`, `Hf` and `Cf` are written. -/
theorem State.setZnhc_f (s : State) (z n h c : Bool) :
    (s.setZnhc z n h c).f = (s.f &&& 0x0F) ||| (bitByte z <<< 7) ||| (bitByte n <<< 6) ||| (bitByte h <<< 5) ||| (bitByte c <<< 4) := by
  simp only [State.setZnhc, State.setNhc, State.setFlag, Flag.bit]
  generalize s.f = f
  revert f z n h c
  decide

/-- The flags after `Zf`, `Nf` and `Hf` are written: `Cf` stays. -/
theorem State.setZnh_f (s : State) (z n h : Bool) :
    (s.setZnh z n h).f = (s.f &&& 0x1F) ||| (bitByte z <<< 7) ||| (bitByte n <<< 6) ||| (bitByte h <<< 5) := by
  simp only [State.setZnh, State.setFlag, Flag.bit]
  generalize s.f = f
  revert f z n h
  decide

/-- The flags after `Nf`, `Hf` and `Cf` are written: `Zf` stays. -/
theorem State.setNhc_f (s : State) (n h c : Bool) :
    (s.setNhc n h c).f = (s.f &&& 0x8F) ||| (bitByte n <<< 6) ||| (bitByte h <<< 5) ||| (bitByte c <<< 4) := by
  simp only [State.setNhc, State.setFlag, Flag.bit]
  generalize s.f = f
  revert f n h c
  decide

/-- Flag writes change `f` and nothing else. -/
theorem State.setZnhc_eq (s : State) (z n h c : Bool) : s.setZnhc z n h c = { s with f := (s.setZnhc z n h c).f } := rfl

theorem State.setZnh_eq (s : State) (z n h : Bool) : s.setZnh z n h = { s with f := (s.setZnh z n h).f } := rfl

theorem State.setNhc_eq (s : State) (n h c : Bool) : s.setNhc n h c = { s with f := (s.setNhc n h c).f } := rfl

end Sys2Proof.Machine
end

