-- ==== Sys2Proof/Laws/Memory.lean ====
section
/-! SUPPORT. The memory: a read after a write, and the canonical form that every memory operation keeps. -/

namespace Sys2Proof.Machine

/-- A byte written reads back. -/
theorem Memory.read_write_same (m : Memory) (addr : Nat) (v : Byte) (low : Nat) (h : Memory.wfFrom low m = true) :
    Memory.read (Memory.write m addr v) addr = v := by
  induction m generalizing low with
  | nil => by_cases hv : v = unlistedByte <;> simp [Memory.write, Memory.read, hv]
  | cons x rest ih =>
    obtain ⟨k, w⟩ := x
    simp only [Memory.wfFrom, Bool.and_eq_true, decide_eq_true_eq] at h
    have absent : ∀ (r : Memory) (n : Nat), addr < n → Memory.wfFrom n r = true → Memory.read r addr = unlistedByte := by
      intro r
      induction r with
      | nil => intro n _ _; rfl
      | cons y tail ih2 =>
        intro n hn hr
        obtain ⟨j, u⟩ := y
        simp only [Memory.wfFrom, Bool.and_eq_true, decide_eq_true_eq] at hr
        rw [Memory.read, if_neg (by omega)]
        exact ih2 (j + 1) (by omega) hr.2
    unfold Memory.write
    by_cases h1 : addr < k
    · by_cases hv : v = unlistedByte
      · have := absent rest (k + 1) (by omega) h.2
        simp [h1, hv, Memory.read, this, show k ≠ addr by omega]
      · simp [h1, hv, Memory.read]
    · by_cases h2 : addr = k
      · by_cases hv : v = unlistedByte
        · simp [h2, hv]
          simpa [h2] using absent rest (k + 1) (by omega) h.2
        · simp [h2, hv, Memory.read]
      · simp [h1, h2, Memory.read, show k ≠ addr by omega]
        exact ih (k + 1) h.2

/-- A write leaves every other address alone. -/
theorem Memory.read_write_other (m : Memory) (addr other : Nat) (v : Byte) (h : other ≠ addr) :
    Memory.read (Memory.write m addr v) other = Memory.read m other := by
  induction m with
  | nil => by_cases hv : v = unlistedByte <;> simp [Memory.write, Memory.read, hv, h.symm]
  | cons x rest ih =>
    obtain ⟨k, w⟩ := x
    unfold Memory.write
    by_cases h1 : addr < k
    · by_cases hv : v = unlistedByte <;> simp [h1, hv, Memory.read, h.symm]
    · by_cases h2 : addr = k
      · have hk : k ≠ other := fun e => h (e ▸ h2.symm)
        by_cases hv : v = unlistedByte <;> simp [h2, hv, Memory.read, hk]
      · simp [h1, h2, Memory.read, ih]

/-- A canonical form from a higher address on is one from a lower address on. -/
theorem Memory.wfFrom_mono {m : Memory} {low high : Nat} (h : Memory.wfFrom high m = true) (hl : low ≤ high) :
    Memory.wfFrom low m = true := by
  cases m with
  | nil => rfl
  | cons x rest =>
    obtain ⟨k, w⟩ := x
    simp only [Memory.wfFrom, Bool.and_eq_true, decide_eq_true_eq] at h ⊢
    exact ⟨⟨⟨by omega, h.1.1.2⟩, h.1.2⟩, h.2⟩

/-- A write at an address of the space keeps the canonical form. -/
theorem Memory.wfFrom_write {m : Memory} {low addr : Nat} {v : Byte} (h : Memory.wfFrom low m = true) (hl : low ≤ addr)
    (ha : addr < 65536) : Memory.wfFrom low (Memory.write m addr v) = true := by
  induction m generalizing low with
  | nil => by_cases hv : v = unlistedByte <;> simp [Memory.write, Memory.wfFrom, hv, hl, ha]
  | cons x rest ih =>
    obtain ⟨k, w⟩ := x
    have hc := h
    simp only [Memory.wfFrom, Bool.and_eq_true, decide_eq_true_eq] at h
    unfold Memory.write
    by_cases h1 : addr < k
    · by_cases hv : v = unlistedByte
      · simpa [h1, hv] using hc
      · simp only [h1, hv, if_true, if_false, Memory.wfFrom, Bool.and_eq_true, decide_eq_true_eq, bne_iff_ne]
        exact ⟨⟨⟨hl, ha⟩, hv⟩, ⟨⟨⟨by omega, h.1.1.2⟩, by simpa using h.1.2⟩, h.2⟩⟩
    · by_cases h2 : addr = k
      · by_cases hv : v = unlistedByte
        · simp only [h2, hv, Nat.lt_irrefl, if_true, if_false]
          exact Memory.wfFrom_mono h.2 (by omega)
        · simp only [h2, hv, Nat.lt_irrefl, if_true, if_false, Memory.wfFrom, Bool.and_eq_true, decide_eq_true_eq,
            bne_iff_ne]
          exact ⟨⟨h.1.1, hv⟩, h.2⟩
      · simp only [h1, h2, if_false, Memory.wfFrom, Bool.and_eq_true, decide_eq_true_eq]
        exact ⟨h.1, ih h.2 (by omega)⟩

/-- A write at a 16-bit address keeps the canonical form. -/
theorem Memory.wf_write {m : Memory} (h : Memory.wf m = true) (addr : Word) (v : Byte) :
    Memory.wf (Memory.write m addr.toNat v) = true :=
  Memory.wfFrom_write h (Nat.zero_le _) addr.isLt

/-- The memory at reset is in canonical form. -/
theorem State.reset_memory_wf : Memory.wf State.reset.mem = true := rfl

/-- Placing an instruction keeps the canonical form. -/
theorem State.placeWord_memory_wf {s : State} (h : Memory.wf s.mem = true) (nbits w : Nat) :
    Memory.wf (s.placeWord nbits w).mem = true :=
  Memory.wf_write (Memory.wf_write (Memory.wf_write h _ _) _ _) _ _

/-- A byte write keeps the canonical form. -/
theorem State.memWrite_memory_wf {s : State} (h : Memory.wf s.mem = true) (addr : Word) (v : Byte) :
    Memory.wf (s.memWrite addr v).mem = true := Memory.wf_write h addr v

/-- A push keeps the canonical form. -/
theorem State.push16_memory_wf {s : State} (h : Memory.wf s.mem = true) (v : Word) :
    Memory.wf (s.push16 v).mem = true :=
  Memory.wf_write (Memory.wf_write h _ _) _ _

/-- A 16-bit store keeps the canonical form. -/
theorem State.write16_memory_wf {s : State} (h : Memory.wf s.mem = true) (addr v : Word) :
    Memory.wf (s.write16 addr v).mem = true :=
  Memory.wf_write (Memory.wf_write h _ _) _ _

/-- A byte written to memory is read back from its address. -/
theorem State.peek_memWrite_same {s : State} (h : Memory.wf s.mem = true) (addr : Word) (v : Byte) :
    (s.memWrite addr v).peek addr = v :=
  Memory.read_write_same _ _ _ 0 h

/-- A byte write leaves every other address as it was. -/
theorem State.peek_memWrite_other (s : State) {addr other : Word} (v : Byte) (h : other ≠ addr) :
    (s.memWrite addr v).peek other = s.peek other :=
  Memory.read_write_other _ _ _ _ (fun e => h (BitVec.eq_of_toNat_eq e))

/-- A change by another component keeps the memory in canonical form. -/
theorem State.memoryChange_memory_wf {s t : State} {addr : Word} {v : Byte} (h : Memory.wf s.mem = true)
    (ht : s.memoryChange addr v = .next t) : Memory.wf t.mem = true := by
  cases ht
  exact Memory.wf_write h addr v

end Sys2Proof.Machine
end

