-- ==== Sys2Proof/Laws/Ops.lean ====
section
/-! SUPPORT. What each shared operation over memory, the stack, the operand forms and control state does, once: cite
these instead of unfolding the operation. -/

namespace Sys2Proof.Machine

/-- A read leaves the machine as it was but for the access on the bus (R50, R56). -/
theorem State.memRead_eq (s : State) (addr : Word) :
    s.memRead addr = (s.peek addr, { s with bus := s.bus ++ [.read addr (s.peek addr)] }) := rfl

/-- What is in memory depends on the memory field alone. -/
theorem State.peek_congr {s t : State} (h : s.mem = t.mem) (addr : Word) : s.peek addr = t.peek addr := by
  simp only [State.peek, h]

/-- Two successive addresses differ (R55). -/
theorem pred_ne_pred2 (v : Word) : v - 1 ≠ v - 2 := by
  intro h
  have h' : (v - 1) - v = (v - 2) - v := congrArg (· - v) h
  revert h'
  bv_omega

/-- A push: both bytes, high byte first, and `SP` (R57). -/
theorem State.push16_eq (s : State) (v : Word) :
    s.push16 v = { s with
      sp := s.sp - 2
      mem := Memory.write (Memory.write s.mem (s.sp - 1).toNat (hiByte v)) (s.sp - 2).toNat (loByte v)
      bus := s.bus ++ [.write (s.sp - 1) (hiByte v), .write (s.sp - 2) (loByte v)] } := by
  simp [State.push16, State.memWrite]

/-- A pop: both bytes, low byte first, and `SP` (R58). -/
theorem State.pop16_eq (s : State) :
    s.pop16 = (word (s.peek (s.sp + 1)) (s.peek s.sp), { s with
      sp := s.sp + 2
      bus := s.bus ++ [.read s.sp (s.peek s.sp), .read (s.sp + 1) (s.peek (s.sp + 1))] }) := by
  simp [State.pop16, State.memRead, State.peek]

/-- A 16-bit write: both bytes, low byte first (R59). -/
theorem State.write16_eq (s : State) (addr v : Word) :
    s.write16 addr v = { s with
      mem := Memory.write (Memory.write s.mem addr.toNat (loByte v)) (addr + 1).toNat (hiByte v)
      bus := s.bus ++ [.write addr (loByte v), .write (addr + 1) (hiByte v)] } := by
  simp [State.write16, State.memWrite]

/-- The high byte of a push, below the old `SP` (R57). -/
theorem State.peek_push16_high {s : State} (h : Memory.wf s.mem = true) (v : Word) :
    (s.push16 v).peek (s.sp - 1) = hiByte v := by
  have e : (s.push16 v).peek (s.sp - 1) = ((s.memWrite (s.sp - 1) (hiByte v)).memWrite (s.sp - 2) (loByte v)).peek (s.sp - 1) :=
    rfl
  rw [e, State.peek_memWrite_other _ _ (pred_ne_pred2 s.sp), State.peek_memWrite_same h]

/-- The low byte of a push, two below the old `SP` (R57). -/
theorem State.peek_push16_low {s : State} (h : Memory.wf s.mem = true) (v : Word) :
    (s.push16 v).peek (s.sp - 2) = loByte v := by
  have e : (s.push16 v).peek (s.sp - 2) = ((s.memWrite (s.sp - 1) (hiByte v)).memWrite (s.sp - 2) (loByte v)).peek (s.sp - 2) :=
    rfl
  rw [e, State.peek_memWrite_same (State.memWrite_memory_wf h _ _)]

/-- A push leaves every other byte alone. -/
theorem State.peek_push16_other (s : State) (v : Word) {addr : Word} (h1 : addr ≠ s.sp - 1) (h2 : addr ≠ s.sp - 2) :
    (s.push16 v).peek addr = s.peek addr := by
  have e : (s.push16 v).peek addr = ((s.memWrite (s.sp - 1) (hiByte v)).memWrite (s.sp - 2) (loByte v)).peek addr := rfl
  rw [e, State.peek_memWrite_other _ _ h2, State.peek_memWrite_other _ _ h1]

/-- Reading a target operand gives its value and at most one read (R140, R160). -/
theorem State.readTarget_eq (s : State) (t : Target8) :
    s.readTarget t = match t with
      | .reg r => (s.reg8 r, s)
      | .ind => (s.peek s.hl, (s.memRead s.hl).2) := by
  cases t <;> rfl

/-- An 8-bit register written is read back, and the others stay (R21). -/
theorem State.reg8_setReg8_same (s : State) (r : Reg8) (v : Byte) : (s.setReg8 r v).reg8 r = v := by
  cases r <;> rfl

theorem State.reg8_setReg8_other (s : State) {r q : Reg8} (v : Byte) (h : q ≠ r) : (s.setReg8 r v).reg8 q = s.reg8 q := by
  cases r <;> cases q <;> first | rfl | exact absurd rfl h

/-- A 16-bit register written is read back (R22, R75). -/
theorem State.reg16_setReg16 (s : State) (p : Reg16) (v : Word) : (s.setReg16 p v).reg16 p = v := by
  cases p <;> first | exact word_hi_lo v | rfl

/-- An action of the collaborator, when it is allowed (R252, R254). -/
theorem State.collaborate_next {s : State} (hf : s.fault = none) (ha : s.acted = false) (effect : State → State) :
    s.collaborate effect = .next { effect s with acted := true } := by
  simp [State.collaborate, hf, ha]

/-- An action of the collaborator answers a next state only when it is allowed (R252, R254). -/
theorem State.collaborate_inv {s t : State} {effect : State → State} (h : s.collaborate effect = .next t) :
    s.fault = none ∧ s.acted = false ∧ t = { effect s with acted := true } := by
  unfold State.collaborate at h
  split at h
  · cases h
  · split at h
    · cases h
    · rename_i h1 h2
      cases h
      exact ⟨by simpa using h1, by simpa using h2, rfl⟩

/-- The move `Divert`, when it is allowed (R251). -/
theorem State.divert_next {s : State} (hf : s.fault = none) (hi : s.ime = true) (ha : s.acted = false) (vector : Word) :
    s.divert vector = .next { s.takeDivert vector with acted := true } := by
  simp [State.divert, hi, State.collaborate_next hf ha]

/-- The move `Divert` answers a next state only when it is allowed (R249, R251, R254). -/
theorem State.divert_inv {s t : State} {vector : Word} (h : s.divert vector = .next t) :
    s.fault = none ∧ s.ime = true ∧ s.acted = false ∧ t = { s.takeDivert vector with acted := true } := by
  unfold State.divert at h
  split at h
  · cases h
  · rename_i h1
    obtain ⟨hf, ha, ht⟩ := State.collaborate_inv h
    exact ⟨hf, by simpa [hf] using h1, ha, ht⟩

/-- The move `Resume` answers a next state only when it is allowed (R250, R252, R254). -/
theorem State.resume_inv {s t : State} (h : s.resume = .next t) :
    s.fault = none ∧ s.acted = false ∧ t = { s with run := .running, acted := true } :=
  State.collaborate_inv h

/-- The external reset answers a next state only for an admitted initial state (R271, R274). -/
theorem State.externalReset_inv {s t : State} {init : InitState} (h : s.externalReset init = .next t) :
    init.f &&& 0x0F = 0 ∧ t = { State.ofInit init s.cfg s.mem with agenda := s.agenda } := by
  unfold State.externalReset at h
  split at h
  · rename_i h1
    refine ⟨by simpa [InitState.admitted] using h1, ?_⟩
    cases h
    rfl
  · cases h

end Sys2Proof.Machine
end

