-- ==== Sys2Proof/Laws/PerInstr.lean ====
section
/-! SUPPORT. Statements about every instruction as syntax, one lemma a constructor. -/

namespace Sys2Proof.Laws.EncodedLength

/-- The encoding of a well-formed instruction has the length its first byte fixes (R70). -/
def Statement (i : Instr) : Prop := i.wf = true → (encode i).length = instrLength ((encode i).headD 0)

theorem nop : Statement .nop := fun _ => rfl
theorem ld_BC_d16 (d16 : Word) : Statement (.ld_BC_d16 d16) := fun _ => (by decide : 3 = instrLength 0x01)
theorem ld_mBC_A : Statement .ld_mBC_A := fun _ => rfl
theorem inc_BC : Statement .inc_BC := fun _ => rfl
theorem inc_B : Statement .inc_B := fun _ => rfl
theorem dec_B : Statement .dec_B := fun _ => rfl
theorem ld_B_d8 (d8 : Byte) : Statement (.ld_B_d8 d8) := fun _ => (by decide : 2 = instrLength 0x06)
theorem rlca : Statement .rlca := fun _ => rfl
theorem ld_ma16_SP (a16 : Word) : Statement (.ld_ma16_SP a16) := fun _ => (by decide : 3 = instrLength 0x08)
theorem add_HL_BC : Statement .add_HL_BC := fun _ => rfl
theorem ld_A_mBC : Statement .ld_A_mBC := fun _ => rfl
theorem dec_BC : Statement .dec_BC := fun _ => rfl
theorem inc_C : Statement .inc_C := fun _ => rfl
theorem dec_C : Statement .dec_C := fun _ => rfl
theorem ld_C_d8 (d8 : Byte) : Statement (.ld_C_d8 d8) := fun _ => (by decide : 2 = instrLength 0x0E)
theorem rrca : Statement .rrca := fun _ => rfl
theorem stop : Statement .stop := fun _ => rfl
theorem ld_DE_d16 (d16 : Word) : Statement (.ld_DE_d16 d16) := fun _ => (by decide : 3 = instrLength 0x11)
theorem ld_mDE_A : Statement .ld_mDE_A := fun _ => rfl
theorem inc_DE : Statement .inc_DE := fun _ => rfl
theorem inc_D : Statement .inc_D := fun _ => rfl
theorem dec_D : Statement .dec_D := fun _ => rfl
theorem ld_D_d8 (d8 : Byte) : Statement (.ld_D_d8 d8) := fun _ => (by decide : 2 = instrLength 0x16)
theorem rla : Statement .rla := fun _ => rfl
theorem jr_e8 (e8 : Byte) : Statement (.jr_e8 e8) := fun _ => (by decide : 2 = instrLength 0x18)
theorem add_HL_DE : Statement .add_HL_DE := fun _ => rfl
theorem ld_A_mDE : Statement .ld_A_mDE := fun _ => rfl
theorem dec_DE : Statement .dec_DE := fun _ => rfl
theorem inc_E : Statement .inc_E := fun _ => rfl
theorem dec_E : Statement .dec_E := fun _ => rfl
theorem ld_E_d8 (d8 : Byte) : Statement (.ld_E_d8 d8) := fun _ => (by decide : 2 = instrLength 0x1E)
theorem rra : Statement .rra := fun _ => rfl
theorem jr_NZ_e8 (e8 : Byte) : Statement (.jr_NZ_e8 e8) := fun _ => (by decide : 2 = instrLength 0x20)
theorem ld_HL_d16 (d16 : Word) : Statement (.ld_HL_d16 d16) := fun _ => (by decide : 3 = instrLength 0x21)
theorem ld_mHLi_A : Statement .ld_mHLi_A := fun _ => rfl
theorem inc_HL : Statement .inc_HL := fun _ => rfl
theorem inc_H : Statement .inc_H := fun _ => rfl
theorem dec_H : Statement .dec_H := fun _ => rfl
theorem ld_H_d8 (d8 : Byte) : Statement (.ld_H_d8 d8) := fun _ => (by decide : 2 = instrLength 0x26)
theorem daa : Statement .daa := fun _ => rfl
theorem jr_Z_e8 (e8 : Byte) : Statement (.jr_Z_e8 e8) := fun _ => (by decide : 2 = instrLength 0x28)
theorem add_HL_HL : Statement .add_HL_HL := fun _ => rfl
theorem ld_A_mHLi : Statement .ld_A_mHLi := fun _ => rfl
theorem dec_HL : Statement .dec_HL := fun _ => rfl
theorem inc_L : Statement .inc_L := fun _ => rfl
theorem dec_L : Statement .dec_L := fun _ => rfl
theorem ld_L_d8 (d8 : Byte) : Statement (.ld_L_d8 d8) := fun _ => (by decide : 2 = instrLength 0x2E)
theorem cpl : Statement .cpl := fun _ => rfl
theorem jr_NC_e8 (e8 : Byte) : Statement (.jr_NC_e8 e8) := fun _ => (by decide : 2 = instrLength 0x30)
theorem ld_SP_d16 (d16 : Word) : Statement (.ld_SP_d16 d16) := fun _ => (by decide : 3 = instrLength 0x31)
theorem ld_mHLd_A : Statement .ld_mHLd_A := fun _ => rfl
theorem inc_SP : Statement .inc_SP := fun _ => rfl
theorem inc_mHL : Statement .inc_mHL := fun _ => rfl
theorem dec_mHL : Statement .dec_mHL := fun _ => rfl
theorem ld_mHL_d8 (d8 : Byte) : Statement (.ld_mHL_d8 d8) := fun _ => (by decide : 2 = instrLength 0x36)
theorem scf : Statement .scf := fun _ => rfl
theorem jr_C_e8 (e8 : Byte) : Statement (.jr_C_e8 e8) := fun _ => (by decide : 2 = instrLength 0x38)
theorem add_HL_SP : Statement .add_HL_SP := fun _ => rfl
theorem ld_A_mHLd : Statement .ld_A_mHLd := fun _ => rfl
theorem dec_SP : Statement .dec_SP := fun _ => rfl
theorem inc_A : Statement .inc_A := fun _ => rfl
theorem dec_A : Statement .dec_A := fun _ => rfl
theorem ld_A_d8 (d8 : Byte) : Statement (.ld_A_d8 d8) := fun _ => (by decide : 2 = instrLength 0x3E)
theorem ccf : Statement .ccf := fun _ => rfl
theorem ld_B_B : Statement .ld_B_B := fun _ => rfl
theorem ld_B_C : Statement .ld_B_C := fun _ => rfl
theorem ld_B_D : Statement .ld_B_D := fun _ => rfl
theorem ld_B_E : Statement .ld_B_E := fun _ => rfl
theorem ld_B_H : Statement .ld_B_H := fun _ => rfl
theorem ld_B_L : Statement .ld_B_L := fun _ => rfl
theorem ld_B_mHL : Statement .ld_B_mHL := fun _ => rfl
theorem ld_B_A : Statement .ld_B_A := fun _ => rfl
theorem ld_C_B : Statement .ld_C_B := fun _ => rfl
theorem ld_C_C : Statement .ld_C_C := fun _ => rfl
theorem ld_C_D : Statement .ld_C_D := fun _ => rfl
theorem ld_C_E : Statement .ld_C_E := fun _ => rfl
theorem ld_C_H : Statement .ld_C_H := fun _ => rfl
theorem ld_C_L : Statement .ld_C_L := fun _ => rfl
theorem ld_C_mHL : Statement .ld_C_mHL := fun _ => rfl
theorem ld_C_A : Statement .ld_C_A := fun _ => rfl
theorem ld_D_B : Statement .ld_D_B := fun _ => rfl
theorem ld_D_C : Statement .ld_D_C := fun _ => rfl
theorem ld_D_D : Statement .ld_D_D := fun _ => rfl
theorem ld_D_E : Statement .ld_D_E := fun _ => rfl
theorem ld_D_H : Statement .ld_D_H := fun _ => rfl
theorem ld_D_L : Statement .ld_D_L := fun _ => rfl
theorem ld_D_mHL : Statement .ld_D_mHL := fun _ => rfl
theorem ld_D_A : Statement .ld_D_A := fun _ => rfl
theorem ld_E_B : Statement .ld_E_B := fun _ => rfl
theorem ld_E_C : Statement .ld_E_C := fun _ => rfl
theorem ld_E_D : Statement .ld_E_D := fun _ => rfl
theorem ld_E_E : Statement .ld_E_E := fun _ => rfl
theorem ld_E_H : Statement .ld_E_H := fun _ => rfl
theorem ld_E_L : Statement .ld_E_L := fun _ => rfl
theorem ld_E_mHL : Statement .ld_E_mHL := fun _ => rfl
theorem ld_E_A : Statement .ld_E_A := fun _ => rfl
theorem ld_H_B : Statement .ld_H_B := fun _ => rfl
theorem ld_H_C : Statement .ld_H_C := fun _ => rfl
theorem ld_H_D : Statement .ld_H_D := fun _ => rfl
theorem ld_H_E : Statement .ld_H_E := fun _ => rfl
theorem ld_H_H : Statement .ld_H_H := fun _ => rfl
theorem ld_H_L : Statement .ld_H_L := fun _ => rfl
theorem ld_H_mHL : Statement .ld_H_mHL := fun _ => rfl
theorem ld_H_A : Statement .ld_H_A := fun _ => rfl
theorem ld_L_B : Statement .ld_L_B := fun _ => rfl
theorem ld_L_C : Statement .ld_L_C := fun _ => rfl
theorem ld_L_D : Statement .ld_L_D := fun _ => rfl
theorem ld_L_E : Statement .ld_L_E := fun _ => rfl
theorem ld_L_H : Statement .ld_L_H := fun _ => rfl
theorem ld_L_L : Statement .ld_L_L := fun _ => rfl
theorem ld_L_mHL : Statement .ld_L_mHL := fun _ => rfl
theorem ld_L_A : Statement .ld_L_A := fun _ => rfl
theorem ld_mHL_B : Statement .ld_mHL_B := fun _ => rfl
theorem ld_mHL_C : Statement .ld_mHL_C := fun _ => rfl
theorem ld_mHL_D : Statement .ld_mHL_D := fun _ => rfl
theorem ld_mHL_E : Statement .ld_mHL_E := fun _ => rfl
theorem ld_mHL_H : Statement .ld_mHL_H := fun _ => rfl
theorem ld_mHL_L : Statement .ld_mHL_L := fun _ => rfl
theorem halt : Statement .halt := fun _ => rfl
theorem ld_mHL_A : Statement .ld_mHL_A := fun _ => rfl
theorem ld_A_B : Statement .ld_A_B := fun _ => rfl
theorem ld_A_C : Statement .ld_A_C := fun _ => rfl
theorem ld_A_D : Statement .ld_A_D := fun _ => rfl
theorem ld_A_E : Statement .ld_A_E := fun _ => rfl
theorem ld_A_H : Statement .ld_A_H := fun _ => rfl
theorem ld_A_L : Statement .ld_A_L := fun _ => rfl
theorem ld_A_mHL : Statement .ld_A_mHL := fun _ => rfl
theorem ld_A_A : Statement .ld_A_A := fun _ => rfl
theorem add_A_B : Statement .add_A_B := fun _ => rfl
theorem add_A_C : Statement .add_A_C := fun _ => rfl
theorem add_A_D : Statement .add_A_D := fun _ => rfl
theorem add_A_E : Statement .add_A_E := fun _ => rfl
theorem add_A_H : Statement .add_A_H := fun _ => rfl
theorem add_A_L : Statement .add_A_L := fun _ => rfl
theorem add_A_mHL : Statement .add_A_mHL := fun _ => rfl
theorem add_A_A : Statement .add_A_A := fun _ => rfl
theorem adc_A_B : Statement .adc_A_B := fun _ => rfl
theorem adc_A_C : Statement .adc_A_C := fun _ => rfl
theorem adc_A_D : Statement .adc_A_D := fun _ => rfl
theorem adc_A_E : Statement .adc_A_E := fun _ => rfl
theorem adc_A_H : Statement .adc_A_H := fun _ => rfl
theorem adc_A_L : Statement .adc_A_L := fun _ => rfl
theorem adc_A_mHL : Statement .adc_A_mHL := fun _ => rfl
theorem adc_A_A : Statement .adc_A_A := fun _ => rfl
theorem sub_B : Statement .sub_B := fun _ => rfl
theorem sub_C : Statement .sub_C := fun _ => rfl
theorem sub_D : Statement .sub_D := fun _ => rfl
theorem sub_E : Statement .sub_E := fun _ => rfl
theorem sub_H : Statement .sub_H := fun _ => rfl
theorem sub_L : Statement .sub_L := fun _ => rfl
theorem sub_mHL : Statement .sub_mHL := fun _ => rfl
theorem sub_A : Statement .sub_A := fun _ => rfl
theorem sbc_A_B : Statement .sbc_A_B := fun _ => rfl
theorem sbc_A_C : Statement .sbc_A_C := fun _ => rfl
theorem sbc_A_D : Statement .sbc_A_D := fun _ => rfl
theorem sbc_A_E : Statement .sbc_A_E := fun _ => rfl
theorem sbc_A_H : Statement .sbc_A_H := fun _ => rfl
theorem sbc_A_L : Statement .sbc_A_L := fun _ => rfl
theorem sbc_A_mHL : Statement .sbc_A_mHL := fun _ => rfl
theorem sbc_A_A : Statement .sbc_A_A := fun _ => rfl
theorem and_B : Statement .and_B := fun _ => rfl
theorem and_C : Statement .and_C := fun _ => rfl
theorem and_D : Statement .and_D := fun _ => rfl
theorem and_E : Statement .and_E := fun _ => rfl
theorem and_H : Statement .and_H := fun _ => rfl
theorem and_L : Statement .and_L := fun _ => rfl
theorem and_mHL : Statement .and_mHL := fun _ => rfl
theorem and_A : Statement .and_A := fun _ => rfl
theorem xor_B : Statement .xor_B := fun _ => rfl
theorem xor_C : Statement .xor_C := fun _ => rfl
theorem xor_D : Statement .xor_D := fun _ => rfl
theorem xor_E : Statement .xor_E := fun _ => rfl
theorem xor_H : Statement .xor_H := fun _ => rfl
theorem xor_L : Statement .xor_L := fun _ => rfl
theorem xor_mHL : Statement .xor_mHL := fun _ => rfl
theorem xor_A : Statement .xor_A := fun _ => rfl
theorem or_B : Statement .or_B := fun _ => rfl
theorem or_C : Statement .or_C := fun _ => rfl
theorem or_D : Statement .or_D := fun _ => rfl
theorem or_E : Statement .or_E := fun _ => rfl
theorem or_H : Statement .or_H := fun _ => rfl
theorem or_L : Statement .or_L := fun _ => rfl
theorem or_mHL : Statement .or_mHL := fun _ => rfl
theorem or_A : Statement .or_A := fun _ => rfl
theorem cp_B : Statement .cp_B := fun _ => rfl
theorem cp_C : Statement .cp_C := fun _ => rfl
theorem cp_D : Statement .cp_D := fun _ => rfl
theorem cp_E : Statement .cp_E := fun _ => rfl
theorem cp_H : Statement .cp_H := fun _ => rfl
theorem cp_L : Statement .cp_L := fun _ => rfl
theorem cp_mHL : Statement .cp_mHL := fun _ => rfl
theorem cp_A : Statement .cp_A := fun _ => rfl
theorem ret_NZ : Statement .ret_NZ := fun _ => rfl
theorem pop_BC : Statement .pop_BC := fun _ => rfl
theorem jp_NZ_a16 (a16 : Word) : Statement (.jp_NZ_a16 a16) := fun _ => (by decide : 3 = instrLength 0xC2)
theorem jp_a16 (a16 : Word) : Statement (.jp_a16 a16) := fun _ => (by decide : 3 = instrLength 0xC3)
theorem call_NZ_a16 (a16 : Word) : Statement (.call_NZ_a16 a16) := fun _ => (by decide : 3 = instrLength 0xC4)
theorem push_BC : Statement .push_BC := fun _ => rfl
theorem add_A_d8 (d8 : Byte) : Statement (.add_A_d8 d8) := fun _ => (by decide : 2 = instrLength 0xC6)
theorem rst_00 : Statement .rst_00 := fun _ => rfl
theorem ret_Z : Statement .ret_Z := fun _ => rfl
theorem ret : Statement .ret := fun _ => rfl
theorem jp_Z_a16 (a16 : Word) : Statement (.jp_Z_a16 a16) := fun _ => (by decide : 3 = instrLength 0xCA)
theorem prefix_CB : Statement .prefix_CB := fun h => Bool.noConfusion h
theorem call_Z_a16 (a16 : Word) : Statement (.call_Z_a16 a16) := fun _ => (by decide : 3 = instrLength 0xCC)
theorem call_a16 (a16 : Word) : Statement (.call_a16 a16) := fun _ => (by decide : 3 = instrLength 0xCD)
theorem adc_A_d8 (d8 : Byte) : Statement (.adc_A_d8 d8) := fun _ => (by decide : 2 = instrLength 0xCE)
theorem rst_08 : Statement .rst_08 := fun _ => rfl
theorem ret_NC : Statement .ret_NC := fun _ => rfl
theorem pop_DE : Statement .pop_DE := fun _ => rfl
theorem jp_NC_a16 (a16 : Word) : Statement (.jp_NC_a16 a16) := fun _ => (by decide : 3 = instrLength 0xD2)
theorem illegal_D3 : Statement .illegal_D3 := fun _ => rfl
theorem call_NC_a16 (a16 : Word) : Statement (.call_NC_a16 a16) := fun _ => (by decide : 3 = instrLength 0xD4)
theorem push_DE : Statement .push_DE := fun _ => rfl
theorem sub_d8 (d8 : Byte) : Statement (.sub_d8 d8) := fun _ => (by decide : 2 = instrLength 0xD6)
theorem rst_10 : Statement .rst_10 := fun _ => rfl
theorem ret_C : Statement .ret_C := fun _ => rfl
theorem reti : Statement .reti := fun _ => rfl
theorem jp_C_a16 (a16 : Word) : Statement (.jp_C_a16 a16) := fun _ => (by decide : 3 = instrLength 0xDA)
theorem illegal_DB : Statement .illegal_DB := fun _ => rfl
theorem call_C_a16 (a16 : Word) : Statement (.call_C_a16 a16) := fun _ => (by decide : 3 = instrLength 0xDC)
theorem illegal_DD : Statement .illegal_DD := fun _ => rfl
theorem sbc_A_d8 (d8 : Byte) : Statement (.sbc_A_d8 d8) := fun _ => (by decide : 2 = instrLength 0xDE)
theorem rst_18 : Statement .rst_18 := fun _ => rfl
theorem ldh_ma8_A (a8 : Byte) : Statement (.ldh_ma8_A a8) := fun _ => (by decide : 2 = instrLength 0xE0)
theorem pop_HL : Statement .pop_HL := fun _ => rfl
theorem ld_mC_A : Statement .ld_mC_A := fun _ => rfl
theorem illegal_E3 : Statement .illegal_E3 := fun _ => rfl
theorem illegal_E4 : Statement .illegal_E4 := fun _ => rfl
theorem push_HL : Statement .push_HL := fun _ => rfl
theorem and_d8 (d8 : Byte) : Statement (.and_d8 d8) := fun _ => (by decide : 2 = instrLength 0xE6)
theorem rst_20 : Statement .rst_20 := fun _ => rfl
theorem add_SP_e8 (e8 : Byte) : Statement (.add_SP_e8 e8) := fun _ => (by decide : 2 = instrLength 0xE8)
theorem jp_HL : Statement .jp_HL := fun _ => rfl
theorem ld_ma16_A (a16 : Word) : Statement (.ld_ma16_A a16) := fun _ => (by decide : 3 = instrLength 0xEA)
theorem illegal_EB : Statement .illegal_EB := fun _ => rfl
theorem illegal_EC : Statement .illegal_EC := fun _ => rfl
theorem illegal_ED : Statement .illegal_ED := fun _ => rfl
theorem xor_d8 (d8 : Byte) : Statement (.xor_d8 d8) := fun _ => (by decide : 2 = instrLength 0xEE)
theorem rst_28 : Statement .rst_28 := fun _ => rfl
theorem ldh_A_ma8 (a8 : Byte) : Statement (.ldh_A_ma8 a8) := fun _ => (by decide : 2 = instrLength 0xF0)
theorem pop_AF : Statement .pop_AF := fun _ => rfl
theorem ld_A_mC : Statement .ld_A_mC := fun _ => rfl
theorem di : Statement .di := fun _ => rfl
theorem illegal_F4 : Statement .illegal_F4 := fun _ => rfl
theorem push_AF : Statement .push_AF := fun _ => rfl
theorem or_d8 (d8 : Byte) : Statement (.or_d8 d8) := fun _ => (by decide : 2 = instrLength 0xF6)
theorem rst_30 : Statement .rst_30 := fun _ => rfl
theorem ld_HL_SPe8 (e8 : Byte) : Statement (.ld_HL_SPe8 e8) := fun _ => (by decide : 2 = instrLength 0xF8)
theorem ld_SP_HL : Statement .ld_SP_HL := fun _ => rfl
theorem ld_A_ma16 (a16 : Word) : Statement (.ld_A_ma16 a16) := fun _ => (by decide : 3 = instrLength 0xFA)
theorem ei : Statement .ei := fun _ => rfl
theorem illegal_FC : Statement .illegal_FC := fun _ => rfl
theorem illegal_FD : Statement .illegal_FD := fun _ => rfl
theorem cp_d8 (d8 : Byte) : Statement (.cp_d8 d8) := fun _ => (by decide : 2 = instrLength 0xFE)
theorem rst_38 : Statement .rst_38 := fun _ => rfl
theorem rlc_r (r : Reg8) : Statement (.rlc_r r) := fun _ => (by decide : 2 = instrLength 0xCB)
theorem rlc_mHL : Statement .rlc_mHL := fun _ => rfl
theorem rrc_r (r : Reg8) : Statement (.rrc_r r) := fun _ => (by decide : 2 = instrLength 0xCB)
theorem rrc_mHL : Statement .rrc_mHL := fun _ => rfl
theorem rl_r (r : Reg8) : Statement (.rl_r r) := fun _ => (by decide : 2 = instrLength 0xCB)
theorem rl_mHL : Statement .rl_mHL := fun _ => rfl
theorem rr_r (r : Reg8) : Statement (.rr_r r) := fun _ => (by decide : 2 = instrLength 0xCB)
theorem rr_mHL : Statement .rr_mHL := fun _ => rfl
theorem sla_r (r : Reg8) : Statement (.sla_r r) := fun _ => (by decide : 2 = instrLength 0xCB)
theorem sla_mHL : Statement .sla_mHL := fun _ => rfl
theorem sra_r (r : Reg8) : Statement (.sra_r r) := fun _ => (by decide : 2 = instrLength 0xCB)
theorem sra_mHL : Statement .sra_mHL := fun _ => rfl
theorem swap_r (r : Reg8) : Statement (.swap_r r) := fun _ => (by decide : 2 = instrLength 0xCB)
theorem swap_mHL : Statement .swap_mHL := fun _ => rfl
theorem srl_r (r : Reg8) : Statement (.srl_r r) := fun _ => (by decide : 2 = instrLength 0xCB)
theorem srl_mHL : Statement .srl_mHL := fun _ => rfl
theorem bit_b_r (b : BitVec 3) (r : Reg8) : Statement (.bit_b_r b r) := fun _ => (by decide : 2 = instrLength 0xCB)
theorem bit_b_mHL (b : BitVec 3) : Statement (.bit_b_mHL b) := fun _ => (by decide : 2 = instrLength 0xCB)
theorem res_b_r (b : BitVec 3) (r : Reg8) : Statement (.res_b_r b r) := fun _ => (by decide : 2 = instrLength 0xCB)
theorem res_b_mHL (b : BitVec 3) : Statement (.res_b_mHL b) := fun _ => (by decide : 2 = instrLength 0xCB)
theorem set_b_r (b : BitVec 3) (r : Reg8) : Statement (.set_b_r b r) := fun _ => (by decide : 2 = instrLength 0xCB)
theorem set_b_mHL (b : BitVec 3) : Statement (.set_b_mHL b) := fun _ => (by decide : 2 = instrLength 0xCB)

end Sys2Proof.Laws.EncodedLength
end

