-- ==== Sys2Proof/Laws/State.lean ====
section
/-! SUPPORT. The fields an update leaves alone, one lemma a field and update, so that no proof unfolds a record update. -/

namespace Sys2Proof.Machine

@[simp] theorem State.memRead_a (s : State) (addr : Word) : ((s.memRead addr).2).a = s.a := rfl
@[simp] theorem State.memRead_b (s : State) (addr : Word) : ((s.memRead addr).2).b = s.b := rfl
@[simp] theorem State.memRead_c (s : State) (addr : Word) : ((s.memRead addr).2).c = s.c := rfl
@[simp] theorem State.memRead_d (s : State) (addr : Word) : ((s.memRead addr).2).d = s.d := rfl
@[simp] theorem State.memRead_e (s : State) (addr : Word) : ((s.memRead addr).2).e = s.e := rfl
@[simp] theorem State.memRead_h (s : State) (addr : Word) : ((s.memRead addr).2).h = s.h := rfl
@[simp] theorem State.memRead_l (s : State) (addr : Word) : ((s.memRead addr).2).l = s.l := rfl
@[simp] theorem State.memRead_f (s : State) (addr : Word) : ((s.memRead addr).2).f = s.f := rfl
@[simp] theorem State.memRead_sp (s : State) (addr : Word) : ((s.memRead addr).2).sp = s.sp := rfl
@[simp] theorem State.memRead_pc (s : State) (addr : Word) : ((s.memRead addr).2).pc = s.pc := rfl
@[simp] theorem State.memRead_ticks (s : State) (addr : Word) : ((s.memRead addr).2).ticks = s.ticks := rfl
@[simp] theorem State.memRead_ime (s : State) (addr : Word) : ((s.memRead addr).2).ime = s.ime := rfl
@[simp] theorem State.memRead_run (s : State) (addr : Word) : ((s.memRead addr).2).run = s.run := rfl
@[simp] theorem State.memRead_fault (s : State) (addr : Word) : ((s.memRead addr).2).fault = s.fault := rfl
@[simp] theorem State.memRead_imePending (s : State) (addr : Word) : ((s.memRead addr).2).imePending = s.imePending := rfl
@[simp] theorem State.memRead_cfg (s : State) (addr : Word) : ((s.memRead addr).2).cfg = s.cfg := rfl
@[simp] theorem State.memRead_mem (s : State) (addr : Word) : ((s.memRead addr).2).mem = s.mem := rfl
@[simp] theorem State.memRead_agenda (s : State) (addr : Word) : ((s.memRead addr).2).agenda = s.agenda := rfl
@[simp] theorem State.memRead_acted (s : State) (addr : Word) : ((s.memRead addr).2).acted = s.acted := rfl
@[simp] theorem State.memRead_extra (s : State) (addr : Word) : ((s.memRead addr).2).extra = s.extra := rfl
@[simp] theorem State.memRead_ret (s : State) (addr : Word) : ((s.memRead addr).2).ret = s.ret := rfl

@[simp] theorem State.memRead_value (s : State) (addr : Word) : (s.memRead addr).1 = s.peek addr := rfl

@[simp] theorem State.memWrite_a (s : State) (addr : Word) (v : Byte) : (s.memWrite addr v).a = s.a := rfl
@[simp] theorem State.memWrite_b (s : State) (addr : Word) (v : Byte) : (s.memWrite addr v).b = s.b := rfl
@[simp] theorem State.memWrite_c (s : State) (addr : Word) (v : Byte) : (s.memWrite addr v).c = s.c := rfl
@[simp] theorem State.memWrite_d (s : State) (addr : Word) (v : Byte) : (s.memWrite addr v).d = s.d := rfl
@[simp] theorem State.memWrite_e (s : State) (addr : Word) (v : Byte) : (s.memWrite addr v).e = s.e := rfl
@[simp] theorem State.memWrite_h (s : State) (addr : Word) (v : Byte) : (s.memWrite addr v).h = s.h := rfl
@[simp] theorem State.memWrite_l (s : State) (addr : Word) (v : Byte) : (s.memWrite addr v).l = s.l := rfl
@[simp] theorem State.memWrite_f (s : State) (addr : Word) (v : Byte) : (s.memWrite addr v).f = s.f := rfl
@[simp] theorem State.memWrite_sp (s : State) (addr : Word) (v : Byte) : (s.memWrite addr v).sp = s.sp := rfl
@[simp] theorem State.memWrite_pc (s : State) (addr : Word) (v : Byte) : (s.memWrite addr v).pc = s.pc := rfl
@[simp] theorem State.memWrite_ticks (s : State) (addr : Word) (v : Byte) : (s.memWrite addr v).ticks = s.ticks := rfl
@[simp] theorem State.memWrite_ime (s : State) (addr : Word) (v : Byte) : (s.memWrite addr v).ime = s.ime := rfl
@[simp] theorem State.memWrite_run (s : State) (addr : Word) (v : Byte) : (s.memWrite addr v).run = s.run := rfl
@[simp] theorem State.memWrite_fault (s : State) (addr : Word) (v : Byte) : (s.memWrite addr v).fault = s.fault := rfl
@[simp] theorem State.memWrite_imePending (s : State) (addr : Word) (v : Byte) : (s.memWrite addr v).imePending = s.imePending := rfl
@[simp] theorem State.memWrite_cfg (s : State) (addr : Word) (v : Byte) : (s.memWrite addr v).cfg = s.cfg := rfl
@[simp] theorem State.memWrite_agenda (s : State) (addr : Word) (v : Byte) : (s.memWrite addr v).agenda = s.agenda := rfl
@[simp] theorem State.memWrite_acted (s : State) (addr : Word) (v : Byte) : (s.memWrite addr v).acted = s.acted := rfl
@[simp] theorem State.memWrite_extra (s : State) (addr : Word) (v : Byte) : (s.memWrite addr v).extra = s.extra := rfl
@[simp] theorem State.memWrite_ret (s : State) (addr : Word) (v : Byte) : (s.memWrite addr v).ret = s.ret := rfl

@[simp] theorem State.fetchByte_a (s : State) : (s.fetchByte.2).a = s.a := rfl
@[simp] theorem State.fetchByte_b (s : State) : (s.fetchByte.2).b = s.b := rfl
@[simp] theorem State.fetchByte_c (s : State) : (s.fetchByte.2).c = s.c := rfl
@[simp] theorem State.fetchByte_d (s : State) : (s.fetchByte.2).d = s.d := rfl
@[simp] theorem State.fetchByte_e (s : State) : (s.fetchByte.2).e = s.e := rfl
@[simp] theorem State.fetchByte_h (s : State) : (s.fetchByte.2).h = s.h := rfl
@[simp] theorem State.fetchByte_l (s : State) : (s.fetchByte.2).l = s.l := rfl
@[simp] theorem State.fetchByte_f (s : State) : (s.fetchByte.2).f = s.f := rfl
@[simp] theorem State.fetchByte_sp (s : State) : (s.fetchByte.2).sp = s.sp := rfl
@[simp] theorem State.fetchByte_ticks (s : State) : (s.fetchByte.2).ticks = s.ticks := rfl
@[simp] theorem State.fetchByte_ime (s : State) : (s.fetchByte.2).ime = s.ime := rfl
@[simp] theorem State.fetchByte_run (s : State) : (s.fetchByte.2).run = s.run := rfl
@[simp] theorem State.fetchByte_fault (s : State) : (s.fetchByte.2).fault = s.fault := rfl
@[simp] theorem State.fetchByte_imePending (s : State) : (s.fetchByte.2).imePending = s.imePending := rfl
@[simp] theorem State.fetchByte_cfg (s : State) : (s.fetchByte.2).cfg = s.cfg := rfl
@[simp] theorem State.fetchByte_mem (s : State) : (s.fetchByte.2).mem = s.mem := rfl
@[simp] theorem State.fetchByte_agenda (s : State) : (s.fetchByte.2).agenda = s.agenda := rfl
@[simp] theorem State.fetchByte_acted (s : State) : (s.fetchByte.2).acted = s.acted := rfl
@[simp] theorem State.fetchByte_extra (s : State) : (s.fetchByte.2).extra = s.extra := rfl
@[simp] theorem State.fetchByte_ret (s : State) : (s.fetchByte.2).ret = s.ret := rfl

@[simp] theorem State.fetchByte_value (s : State) : s.fetchByte.1 = s.peek s.pc := rfl
@[simp] theorem State.fetchByte_pc (s : State) : s.fetchByte.2.pc = s.pc + 1 := rfl

@[simp] theorem State.push16_a (s : State) (v : Word) : (s.push16 v).a = s.a := rfl
@[simp] theorem State.push16_b (s : State) (v : Word) : (s.push16 v).b = s.b := rfl
@[simp] theorem State.push16_c (s : State) (v : Word) : (s.push16 v).c = s.c := rfl
@[simp] theorem State.push16_d (s : State) (v : Word) : (s.push16 v).d = s.d := rfl
@[simp] theorem State.push16_e (s : State) (v : Word) : (s.push16 v).e = s.e := rfl
@[simp] theorem State.push16_h (s : State) (v : Word) : (s.push16 v).h = s.h := rfl
@[simp] theorem State.push16_l (s : State) (v : Word) : (s.push16 v).l = s.l := rfl
@[simp] theorem State.push16_f (s : State) (v : Word) : (s.push16 v).f = s.f := rfl
@[simp] theorem State.push16_pc (s : State) (v : Word) : (s.push16 v).pc = s.pc := rfl
@[simp] theorem State.push16_ticks (s : State) (v : Word) : (s.push16 v).ticks = s.ticks := rfl
@[simp] theorem State.push16_ime (s : State) (v : Word) : (s.push16 v).ime = s.ime := rfl
@[simp] theorem State.push16_run (s : State) (v : Word) : (s.push16 v).run = s.run := rfl
@[simp] theorem State.push16_fault (s : State) (v : Word) : (s.push16 v).fault = s.fault := rfl
@[simp] theorem State.push16_imePending (s : State) (v : Word) : (s.push16 v).imePending = s.imePending := rfl
@[simp] theorem State.push16_cfg (s : State) (v : Word) : (s.push16 v).cfg = s.cfg := rfl
@[simp] theorem State.push16_agenda (s : State) (v : Word) : (s.push16 v).agenda = s.agenda := rfl
@[simp] theorem State.push16_acted (s : State) (v : Word) : (s.push16 v).acted = s.acted := rfl
@[simp] theorem State.push16_extra (s : State) (v : Word) : (s.push16 v).extra = s.extra := rfl
@[simp] theorem State.push16_ret (s : State) (v : Word) : (s.push16 v).ret = s.ret := rfl

@[simp] theorem State.push16_sp (s : State) (v : Word) : (s.push16 v).sp = s.sp - 2 := rfl

@[simp] theorem State.pop16_a (s : State) : (s.pop16.2).a = s.a := rfl
@[simp] theorem State.pop16_b (s : State) : (s.pop16.2).b = s.b := rfl
@[simp] theorem State.pop16_c (s : State) : (s.pop16.2).c = s.c := rfl
@[simp] theorem State.pop16_d (s : State) : (s.pop16.2).d = s.d := rfl
@[simp] theorem State.pop16_e (s : State) : (s.pop16.2).e = s.e := rfl
@[simp] theorem State.pop16_h (s : State) : (s.pop16.2).h = s.h := rfl
@[simp] theorem State.pop16_l (s : State) : (s.pop16.2).l = s.l := rfl
@[simp] theorem State.pop16_f (s : State) : (s.pop16.2).f = s.f := rfl
@[simp] theorem State.pop16_pc (s : State) : (s.pop16.2).pc = s.pc := rfl
@[simp] theorem State.pop16_ticks (s : State) : (s.pop16.2).ticks = s.ticks := rfl
@[simp] theorem State.pop16_ime (s : State) : (s.pop16.2).ime = s.ime := rfl
@[simp] theorem State.pop16_run (s : State) : (s.pop16.2).run = s.run := rfl
@[simp] theorem State.pop16_fault (s : State) : (s.pop16.2).fault = s.fault := rfl
@[simp] theorem State.pop16_imePending (s : State) : (s.pop16.2).imePending = s.imePending := rfl
@[simp] theorem State.pop16_cfg (s : State) : (s.pop16.2).cfg = s.cfg := rfl
@[simp] theorem State.pop16_mem (s : State) : (s.pop16.2).mem = s.mem := rfl
@[simp] theorem State.pop16_agenda (s : State) : (s.pop16.2).agenda = s.agenda := rfl
@[simp] theorem State.pop16_acted (s : State) : (s.pop16.2).acted = s.acted := rfl
@[simp] theorem State.pop16_extra (s : State) : (s.pop16.2).extra = s.extra := rfl
@[simp] theorem State.pop16_ret (s : State) : (s.pop16.2).ret = s.ret := rfl

@[simp] theorem State.pop16_sp (s : State) : s.pop16.2.sp = s.sp + 2 := rfl

@[simp] theorem State.write16_a (s : State) (addr v : Word) : (s.write16 addr v).a = s.a := rfl
@[simp] theorem State.write16_b (s : State) (addr v : Word) : (s.write16 addr v).b = s.b := rfl
@[simp] theorem State.write16_c (s : State) (addr v : Word) : (s.write16 addr v).c = s.c := rfl
@[simp] theorem State.write16_d (s : State) (addr v : Word) : (s.write16 addr v).d = s.d := rfl
@[simp] theorem State.write16_e (s : State) (addr v : Word) : (s.write16 addr v).e = s.e := rfl
@[simp] theorem State.write16_h (s : State) (addr v : Word) : (s.write16 addr v).h = s.h := rfl
@[simp] theorem State.write16_l (s : State) (addr v : Word) : (s.write16 addr v).l = s.l := rfl
@[simp] theorem State.write16_f (s : State) (addr v : Word) : (s.write16 addr v).f = s.f := rfl
@[simp] theorem State.write16_sp (s : State) (addr v : Word) : (s.write16 addr v).sp = s.sp := rfl
@[simp] theorem State.write16_pc (s : State) (addr v : Word) : (s.write16 addr v).pc = s.pc := rfl
@[simp] theorem State.write16_ticks (s : State) (addr v : Word) : (s.write16 addr v).ticks = s.ticks := rfl
@[simp] theorem State.write16_ime (s : State) (addr v : Word) : (s.write16 addr v).ime = s.ime := rfl
@[simp] theorem State.write16_run (s : State) (addr v : Word) : (s.write16 addr v).run = s.run := rfl
@[simp] theorem State.write16_fault (s : State) (addr v : Word) : (s.write16 addr v).fault = s.fault := rfl
@[simp] theorem State.write16_imePending (s : State) (addr v : Word) : (s.write16 addr v).imePending = s.imePending := rfl
@[simp] theorem State.write16_cfg (s : State) (addr v : Word) : (s.write16 addr v).cfg = s.cfg := rfl
@[simp] theorem State.write16_agenda (s : State) (addr v : Word) : (s.write16 addr v).agenda = s.agenda := rfl
@[simp] theorem State.write16_acted (s : State) (addr v : Word) : (s.write16 addr v).acted = s.acted := rfl
@[simp] theorem State.write16_extra (s : State) (addr v : Word) : (s.write16 addr v).extra = s.extra := rfl
@[simp] theorem State.write16_ret (s : State) (addr v : Word) : (s.write16 addr v).ret = s.ret := rfl

@[simp] theorem State.latchFault_a (s : State) (record : Fault) : (s.latchFault record).a = s.a := rfl
@[simp] theorem State.latchFault_b (s : State) (record : Fault) : (s.latchFault record).b = s.b := rfl
@[simp] theorem State.latchFault_c (s : State) (record : Fault) : (s.latchFault record).c = s.c := rfl
@[simp] theorem State.latchFault_d (s : State) (record : Fault) : (s.latchFault record).d = s.d := rfl
@[simp] theorem State.latchFault_e (s : State) (record : Fault) : (s.latchFault record).e = s.e := rfl
@[simp] theorem State.latchFault_h (s : State) (record : Fault) : (s.latchFault record).h = s.h := rfl
@[simp] theorem State.latchFault_l (s : State) (record : Fault) : (s.latchFault record).l = s.l := rfl
@[simp] theorem State.latchFault_f (s : State) (record : Fault) : (s.latchFault record).f = s.f := rfl
@[simp] theorem State.latchFault_sp (s : State) (record : Fault) : (s.latchFault record).sp = s.sp := rfl
@[simp] theorem State.latchFault_pc (s : State) (record : Fault) : (s.latchFault record).pc = s.pc := rfl
@[simp] theorem State.latchFault_ticks (s : State) (record : Fault) : (s.latchFault record).ticks = s.ticks := rfl
@[simp] theorem State.latchFault_ime (s : State) (record : Fault) : (s.latchFault record).ime = s.ime := rfl
@[simp] theorem State.latchFault_run (s : State) (record : Fault) : (s.latchFault record).run = s.run := rfl
@[simp] theorem State.latchFault_imePending (s : State) (record : Fault) : (s.latchFault record).imePending = s.imePending := rfl
@[simp] theorem State.latchFault_cfg (s : State) (record : Fault) : (s.latchFault record).cfg = s.cfg := rfl
@[simp] theorem State.latchFault_mem (s : State) (record : Fault) : (s.latchFault record).mem = s.mem := rfl
@[simp] theorem State.latchFault_agenda (s : State) (record : Fault) : (s.latchFault record).agenda = s.agenda := rfl
@[simp] theorem State.latchFault_acted (s : State) (record : Fault) : (s.latchFault record).acted = s.acted := rfl
@[simp] theorem State.latchFault_bus (s : State) (record : Fault) : (s.latchFault record).bus = s.bus := rfl
@[simp] theorem State.latchFault_extra (s : State) (record : Fault) : (s.latchFault record).extra = s.extra := rfl
@[simp] theorem State.latchFault_ret (s : State) (record : Fault) : (s.latchFault record).ret = s.ret := rfl

@[simp] theorem State.latchFault_fault (s : State) (record : Fault) : (s.latchFault record).fault = some record := rfl

@[simp] theorem State.latchIllegal_a (s : State) (b1 : Byte) : (s.latchIllegal b1).a = s.a := rfl
@[simp] theorem State.latchIllegal_b (s : State) (b1 : Byte) : (s.latchIllegal b1).b = s.b := rfl
@[simp] theorem State.latchIllegal_c (s : State) (b1 : Byte) : (s.latchIllegal b1).c = s.c := rfl
@[simp] theorem State.latchIllegal_d (s : State) (b1 : Byte) : (s.latchIllegal b1).d = s.d := rfl
@[simp] theorem State.latchIllegal_e (s : State) (b1 : Byte) : (s.latchIllegal b1).e = s.e := rfl
@[simp] theorem State.latchIllegal_h (s : State) (b1 : Byte) : (s.latchIllegal b1).h = s.h := rfl
@[simp] theorem State.latchIllegal_l (s : State) (b1 : Byte) : (s.latchIllegal b1).l = s.l := rfl
@[simp] theorem State.latchIllegal_f (s : State) (b1 : Byte) : (s.latchIllegal b1).f = s.f := rfl
@[simp] theorem State.latchIllegal_sp (s : State) (b1 : Byte) : (s.latchIllegal b1).sp = s.sp := rfl
@[simp] theorem State.latchIllegal_pc (s : State) (b1 : Byte) : (s.latchIllegal b1).pc = s.pc := rfl
@[simp] theorem State.latchIllegal_ticks (s : State) (b1 : Byte) : (s.latchIllegal b1).ticks = s.ticks := rfl
@[simp] theorem State.latchIllegal_ime (s : State) (b1 : Byte) : (s.latchIllegal b1).ime = s.ime := rfl
@[simp] theorem State.latchIllegal_run (s : State) (b1 : Byte) : (s.latchIllegal b1).run = s.run := rfl
@[simp] theorem State.latchIllegal_imePending (s : State) (b1 : Byte) : (s.latchIllegal b1).imePending = s.imePending := rfl
@[simp] theorem State.latchIllegal_cfg (s : State) (b1 : Byte) : (s.latchIllegal b1).cfg = s.cfg := rfl
@[simp] theorem State.latchIllegal_mem (s : State) (b1 : Byte) : (s.latchIllegal b1).mem = s.mem := rfl
@[simp] theorem State.latchIllegal_agenda (s : State) (b1 : Byte) : (s.latchIllegal b1).agenda = s.agenda := rfl
@[simp] theorem State.latchIllegal_acted (s : State) (b1 : Byte) : (s.latchIllegal b1).acted = s.acted := rfl
@[simp] theorem State.latchIllegal_bus (s : State) (b1 : Byte) : (s.latchIllegal b1).bus = s.bus := rfl
@[simp] theorem State.latchIllegal_extra (s : State) (b1 : Byte) : (s.latchIllegal b1).extra = s.extra := rfl
@[simp] theorem State.latchIllegal_ret (s : State) (b1 : Byte) : (s.latchIllegal b1).ret = s.ret := rfl

@[simp] theorem State.latchUnimplemented_a (s : State) (op2 : Byte) : (s.latchUnimplemented op2).a = s.a := rfl
@[simp] theorem State.latchUnimplemented_b (s : State) (op2 : Byte) : (s.latchUnimplemented op2).b = s.b := rfl
@[simp] theorem State.latchUnimplemented_c (s : State) (op2 : Byte) : (s.latchUnimplemented op2).c = s.c := rfl
@[simp] theorem State.latchUnimplemented_d (s : State) (op2 : Byte) : (s.latchUnimplemented op2).d = s.d := rfl
@[simp] theorem State.latchUnimplemented_e (s : State) (op2 : Byte) : (s.latchUnimplemented op2).e = s.e := rfl
@[simp] theorem State.latchUnimplemented_h (s : State) (op2 : Byte) : (s.latchUnimplemented op2).h = s.h := rfl
@[simp] theorem State.latchUnimplemented_l (s : State) (op2 : Byte) : (s.latchUnimplemented op2).l = s.l := rfl
@[simp] theorem State.latchUnimplemented_f (s : State) (op2 : Byte) : (s.latchUnimplemented op2).f = s.f := rfl
@[simp] theorem State.latchUnimplemented_sp (s : State) (op2 : Byte) : (s.latchUnimplemented op2).sp = s.sp := rfl
@[simp] theorem State.latchUnimplemented_pc (s : State) (op2 : Byte) : (s.latchUnimplemented op2).pc = s.pc := rfl
@[simp] theorem State.latchUnimplemented_ticks (s : State) (op2 : Byte) : (s.latchUnimplemented op2).ticks = s.ticks := rfl
@[simp] theorem State.latchUnimplemented_ime (s : State) (op2 : Byte) : (s.latchUnimplemented op2).ime = s.ime := rfl
@[simp] theorem State.latchUnimplemented_run (s : State) (op2 : Byte) : (s.latchUnimplemented op2).run = s.run := rfl
@[simp] theorem State.latchUnimplemented_imePending (s : State) (op2 : Byte) : (s.latchUnimplemented op2).imePending = s.imePending := rfl
@[simp] theorem State.latchUnimplemented_cfg (s : State) (op2 : Byte) : (s.latchUnimplemented op2).cfg = s.cfg := rfl
@[simp] theorem State.latchUnimplemented_mem (s : State) (op2 : Byte) : (s.latchUnimplemented op2).mem = s.mem := rfl
@[simp] theorem State.latchUnimplemented_agenda (s : State) (op2 : Byte) : (s.latchUnimplemented op2).agenda = s.agenda := rfl
@[simp] theorem State.latchUnimplemented_acted (s : State) (op2 : Byte) : (s.latchUnimplemented op2).acted = s.acted := rfl
@[simp] theorem State.latchUnimplemented_bus (s : State) (op2 : Byte) : (s.latchUnimplemented op2).bus = s.bus := rfl
@[simp] theorem State.latchUnimplemented_extra (s : State) (op2 : Byte) : (s.latchUnimplemented op2).extra = s.extra := rfl
@[simp] theorem State.latchUnimplemented_ret (s : State) (op2 : Byte) : (s.latchUnimplemented op2).ret = s.ret := rfl

@[simp] theorem State.addTicks_a (s : State) (n : Nat) : (s.addTicks n).a = s.a := rfl
@[simp] theorem State.addTicks_b (s : State) (n : Nat) : (s.addTicks n).b = s.b := rfl
@[simp] theorem State.addTicks_c (s : State) (n : Nat) : (s.addTicks n).c = s.c := rfl
@[simp] theorem State.addTicks_d (s : State) (n : Nat) : (s.addTicks n).d = s.d := rfl
@[simp] theorem State.addTicks_e (s : State) (n : Nat) : (s.addTicks n).e = s.e := rfl
@[simp] theorem State.addTicks_h (s : State) (n : Nat) : (s.addTicks n).h = s.h := rfl
@[simp] theorem State.addTicks_l (s : State) (n : Nat) : (s.addTicks n).l = s.l := rfl
@[simp] theorem State.addTicks_f (s : State) (n : Nat) : (s.addTicks n).f = s.f := rfl
@[simp] theorem State.addTicks_sp (s : State) (n : Nat) : (s.addTicks n).sp = s.sp := rfl
@[simp] theorem State.addTicks_pc (s : State) (n : Nat) : (s.addTicks n).pc = s.pc := rfl
@[simp] theorem State.addTicks_ime (s : State) (n : Nat) : (s.addTicks n).ime = s.ime := rfl
@[simp] theorem State.addTicks_run (s : State) (n : Nat) : (s.addTicks n).run = s.run := rfl
@[simp] theorem State.addTicks_fault (s : State) (n : Nat) : (s.addTicks n).fault = s.fault := rfl
@[simp] theorem State.addTicks_imePending (s : State) (n : Nat) : (s.addTicks n).imePending = s.imePending := rfl
@[simp] theorem State.addTicks_cfg (s : State) (n : Nat) : (s.addTicks n).cfg = s.cfg := rfl
@[simp] theorem State.addTicks_mem (s : State) (n : Nat) : (s.addTicks n).mem = s.mem := rfl
@[simp] theorem State.addTicks_agenda (s : State) (n : Nat) : (s.addTicks n).agenda = s.agenda := rfl
@[simp] theorem State.addTicks_acted (s : State) (n : Nat) : (s.addTicks n).acted = s.acted := rfl
@[simp] theorem State.addTicks_bus (s : State) (n : Nat) : (s.addTicks n).bus = s.bus := rfl
@[simp] theorem State.addTicks_extra (s : State) (n : Nat) : (s.addTicks n).extra = s.extra := rfl
@[simp] theorem State.addTicks_ret (s : State) (n : Nat) : (s.addTicks n).ret = s.ret := rfl

@[simp] theorem State.takeBranch_a (s : State) (kind : BranchKind) : (s.takeBranch kind).a = s.a := rfl
@[simp] theorem State.takeBranch_b (s : State) (kind : BranchKind) : (s.takeBranch kind).b = s.b := rfl
@[simp] theorem State.takeBranch_c (s : State) (kind : BranchKind) : (s.takeBranch kind).c = s.c := rfl
@[simp] theorem State.takeBranch_d (s : State) (kind : BranchKind) : (s.takeBranch kind).d = s.d := rfl
@[simp] theorem State.takeBranch_e (s : State) (kind : BranchKind) : (s.takeBranch kind).e = s.e := rfl
@[simp] theorem State.takeBranch_h (s : State) (kind : BranchKind) : (s.takeBranch kind).h = s.h := rfl
@[simp] theorem State.takeBranch_l (s : State) (kind : BranchKind) : (s.takeBranch kind).l = s.l := rfl
@[simp] theorem State.takeBranch_f (s : State) (kind : BranchKind) : (s.takeBranch kind).f = s.f := rfl
@[simp] theorem State.takeBranch_sp (s : State) (kind : BranchKind) : (s.takeBranch kind).sp = s.sp := rfl
@[simp] theorem State.takeBranch_pc (s : State) (kind : BranchKind) : (s.takeBranch kind).pc = s.pc := rfl
@[simp] theorem State.takeBranch_ime (s : State) (kind : BranchKind) : (s.takeBranch kind).ime = s.ime := rfl
@[simp] theorem State.takeBranch_run (s : State) (kind : BranchKind) : (s.takeBranch kind).run = s.run := rfl
@[simp] theorem State.takeBranch_fault (s : State) (kind : BranchKind) : (s.takeBranch kind).fault = s.fault := rfl
@[simp] theorem State.takeBranch_imePending (s : State) (kind : BranchKind) : (s.takeBranch kind).imePending = s.imePending := rfl
@[simp] theorem State.takeBranch_cfg (s : State) (kind : BranchKind) : (s.takeBranch kind).cfg = s.cfg := rfl
@[simp] theorem State.takeBranch_mem (s : State) (kind : BranchKind) : (s.takeBranch kind).mem = s.mem := rfl
@[simp] theorem State.takeBranch_agenda (s : State) (kind : BranchKind) : (s.takeBranch kind).agenda = s.agenda := rfl
@[simp] theorem State.takeBranch_acted (s : State) (kind : BranchKind) : (s.takeBranch kind).acted = s.acted := rfl
@[simp] theorem State.takeBranch_bus (s : State) (kind : BranchKind) : (s.takeBranch kind).bus = s.bus := rfl
@[simp] theorem State.takeBranch_ret (s : State) (kind : BranchKind) : (s.takeBranch kind).ret = s.ret := rfl

@[simp] theorem State.takeDivert_a (s : State) (vector : Word) : (s.takeDivert vector).a = s.a := rfl
@[simp] theorem State.takeDivert_b (s : State) (vector : Word) : (s.takeDivert vector).b = s.b := rfl
@[simp] theorem State.takeDivert_c (s : State) (vector : Word) : (s.takeDivert vector).c = s.c := rfl
@[simp] theorem State.takeDivert_d (s : State) (vector : Word) : (s.takeDivert vector).d = s.d := rfl
@[simp] theorem State.takeDivert_e (s : State) (vector : Word) : (s.takeDivert vector).e = s.e := rfl
@[simp] theorem State.takeDivert_h (s : State) (vector : Word) : (s.takeDivert vector).h = s.h := rfl
@[simp] theorem State.takeDivert_l (s : State) (vector : Word) : (s.takeDivert vector).l = s.l := rfl
@[simp] theorem State.takeDivert_f (s : State) (vector : Word) : (s.takeDivert vector).f = s.f := rfl
@[simp] theorem State.takeDivert_ticks (s : State) (vector : Word) : (s.takeDivert vector).ticks = s.ticks := rfl
@[simp] theorem State.takeDivert_fault (s : State) (vector : Word) : (s.takeDivert vector).fault = s.fault := rfl
@[simp] theorem State.takeDivert_cfg (s : State) (vector : Word) : (s.takeDivert vector).cfg = s.cfg := rfl
@[simp] theorem State.takeDivert_agenda (s : State) (vector : Word) : (s.takeDivert vector).agenda = s.agenda := rfl
@[simp] theorem State.takeDivert_acted (s : State) (vector : Word) : (s.takeDivert vector).acted = s.acted := rfl
@[simp] theorem State.takeDivert_extra (s : State) (vector : Word) : (s.takeDivert vector).extra = s.extra := rfl
@[simp] theorem State.takeDivert_ret (s : State) (vector : Word) : (s.takeDivert vector).ret = s.ret := rfl

@[simp] theorem State.returnFromDivert_a (s : State) : (s.returnFromDivert).a = s.a := rfl
@[simp] theorem State.returnFromDivert_b (s : State) : (s.returnFromDivert).b = s.b := rfl
@[simp] theorem State.returnFromDivert_c (s : State) : (s.returnFromDivert).c = s.c := rfl
@[simp] theorem State.returnFromDivert_d (s : State) : (s.returnFromDivert).d = s.d := rfl
@[simp] theorem State.returnFromDivert_e (s : State) : (s.returnFromDivert).e = s.e := rfl
@[simp] theorem State.returnFromDivert_h (s : State) : (s.returnFromDivert).h = s.h := rfl
@[simp] theorem State.returnFromDivert_l (s : State) : (s.returnFromDivert).l = s.l := rfl
@[simp] theorem State.returnFromDivert_f (s : State) : (s.returnFromDivert).f = s.f := rfl
@[simp] theorem State.returnFromDivert_ticks (s : State) : (s.returnFromDivert).ticks = s.ticks := rfl
@[simp] theorem State.returnFromDivert_run (s : State) : (s.returnFromDivert).run = s.run := rfl
@[simp] theorem State.returnFromDivert_fault (s : State) : (s.returnFromDivert).fault = s.fault := rfl
@[simp] theorem State.returnFromDivert_cfg (s : State) : (s.returnFromDivert).cfg = s.cfg := rfl
@[simp] theorem State.returnFromDivert_mem (s : State) : (s.returnFromDivert).mem = s.mem := rfl
@[simp] theorem State.returnFromDivert_agenda (s : State) : (s.returnFromDivert).agenda = s.agenda := rfl
@[simp] theorem State.returnFromDivert_acted (s : State) : (s.returnFromDivert).acted = s.acted := rfl
@[simp] theorem State.returnFromDivert_extra (s : State) : (s.returnFromDivert).extra = s.extra := rfl
@[simp] theorem State.returnFromDivert_ret (s : State) : (s.returnFromDivert).ret = s.ret := rfl

@[simp] theorem State.beginMove_a (s : State) : (s.beginMove).a = s.a := rfl
@[simp] theorem State.beginMove_b (s : State) : (s.beginMove).b = s.b := rfl
@[simp] theorem State.beginMove_c (s : State) : (s.beginMove).c = s.c := rfl
@[simp] theorem State.beginMove_d (s : State) : (s.beginMove).d = s.d := rfl
@[simp] theorem State.beginMove_e (s : State) : (s.beginMove).e = s.e := rfl
@[simp] theorem State.beginMove_h (s : State) : (s.beginMove).h = s.h := rfl
@[simp] theorem State.beginMove_l (s : State) : (s.beginMove).l = s.l := rfl
@[simp] theorem State.beginMove_f (s : State) : (s.beginMove).f = s.f := rfl
@[simp] theorem State.beginMove_sp (s : State) : (s.beginMove).sp = s.sp := rfl
@[simp] theorem State.beginMove_pc (s : State) : (s.beginMove).pc = s.pc := rfl
@[simp] theorem State.beginMove_ticks (s : State) : (s.beginMove).ticks = s.ticks := rfl
@[simp] theorem State.beginMove_ime (s : State) : (s.beginMove).ime = s.ime := rfl
@[simp] theorem State.beginMove_run (s : State) : (s.beginMove).run = s.run := rfl
@[simp] theorem State.beginMove_fault (s : State) : (s.beginMove).fault = s.fault := rfl
@[simp] theorem State.beginMove_imePending (s : State) : (s.beginMove).imePending = s.imePending := rfl
@[simp] theorem State.beginMove_cfg (s : State) : (s.beginMove).cfg = s.cfg := rfl
@[simp] theorem State.beginMove_mem (s : State) : (s.beginMove).mem = s.mem := rfl
@[simp] theorem State.beginMove_agenda (s : State) : (s.beginMove).agenda = s.agenda := rfl
@[simp] theorem State.beginMove_acted (s : State) : (s.beginMove).acted = s.acted := rfl

@[simp] theorem State.beginStep_a (s : State) : (s.beginStep).a = s.a := rfl
@[simp] theorem State.beginStep_b (s : State) : (s.beginStep).b = s.b := rfl
@[simp] theorem State.beginStep_c (s : State) : (s.beginStep).c = s.c := rfl
@[simp] theorem State.beginStep_d (s : State) : (s.beginStep).d = s.d := rfl
@[simp] theorem State.beginStep_e (s : State) : (s.beginStep).e = s.e := rfl
@[simp] theorem State.beginStep_h (s : State) : (s.beginStep).h = s.h := rfl
@[simp] theorem State.beginStep_l (s : State) : (s.beginStep).l = s.l := rfl
@[simp] theorem State.beginStep_f (s : State) : (s.beginStep).f = s.f := rfl
@[simp] theorem State.beginStep_sp (s : State) : (s.beginStep).sp = s.sp := rfl
@[simp] theorem State.beginStep_pc (s : State) : (s.beginStep).pc = s.pc := rfl
@[simp] theorem State.beginStep_ticks (s : State) : (s.beginStep).ticks = s.ticks := rfl
@[simp] theorem State.beginStep_ime (s : State) : (s.beginStep).ime = s.ime := rfl
@[simp] theorem State.beginStep_run (s : State) : (s.beginStep).run = s.run := rfl
@[simp] theorem State.beginStep_fault (s : State) : (s.beginStep).fault = s.fault := rfl
@[simp] theorem State.beginStep_imePending (s : State) : (s.beginStep).imePending = s.imePending := rfl
@[simp] theorem State.beginStep_cfg (s : State) : (s.beginStep).cfg = s.cfg := rfl
@[simp] theorem State.beginStep_mem (s : State) : (s.beginStep).mem = s.mem := rfl
@[simp] theorem State.beginStep_agenda (s : State) : (s.beginStep).agenda = s.agenda := rfl
@[simp] theorem State.beginStep_bus (s : State) : (s.beginStep).bus = s.bus := rfl
@[simp] theorem State.beginStep_extra (s : State) : (s.beginStep).extra = s.extra := rfl
@[simp] theorem State.beginStep_ret (s : State) : (s.beginStep).ret = s.ret := rfl

@[simp] theorem State.beginStep_acted (s : State) : s.beginStep.acted = false := rfl

@[simp] theorem State.setReg8_f (s : State) (r : Reg8) (v : Byte) : (s.setReg8 r v).f = s.f := by cases r <;> rfl
@[simp] theorem State.setReg8_sp (s : State) (r : Reg8) (v : Byte) : (s.setReg8 r v).sp = s.sp := by cases r <;> rfl
@[simp] theorem State.setReg8_pc (s : State) (r : Reg8) (v : Byte) : (s.setReg8 r v).pc = s.pc := by cases r <;> rfl
@[simp] theorem State.setReg8_ticks (s : State) (r : Reg8) (v : Byte) : (s.setReg8 r v).ticks = s.ticks := by cases r <;> rfl
@[simp] theorem State.setReg8_ime (s : State) (r : Reg8) (v : Byte) : (s.setReg8 r v).ime = s.ime := by cases r <;> rfl
@[simp] theorem State.setReg8_run (s : State) (r : Reg8) (v : Byte) : (s.setReg8 r v).run = s.run := by cases r <;> rfl
@[simp] theorem State.setReg8_fault (s : State) (r : Reg8) (v : Byte) : (s.setReg8 r v).fault = s.fault := by cases r <;> rfl
@[simp] theorem State.setReg8_imePending (s : State) (r : Reg8) (v : Byte) : (s.setReg8 r v).imePending = s.imePending := by cases r <;> rfl
@[simp] theorem State.setReg8_cfg (s : State) (r : Reg8) (v : Byte) : (s.setReg8 r v).cfg = s.cfg := by cases r <;> rfl
@[simp] theorem State.setReg8_mem (s : State) (r : Reg8) (v : Byte) : (s.setReg8 r v).mem = s.mem := by cases r <;> rfl
@[simp] theorem State.setReg8_agenda (s : State) (r : Reg8) (v : Byte) : (s.setReg8 r v).agenda = s.agenda := by cases r <;> rfl
@[simp] theorem State.setReg8_acted (s : State) (r : Reg8) (v : Byte) : (s.setReg8 r v).acted = s.acted := by cases r <;> rfl
@[simp] theorem State.setReg8_bus (s : State) (r : Reg8) (v : Byte) : (s.setReg8 r v).bus = s.bus := by cases r <;> rfl
@[simp] theorem State.setReg8_extra (s : State) (r : Reg8) (v : Byte) : (s.setReg8 r v).extra = s.extra := by cases r <;> rfl
@[simp] theorem State.setReg8_ret (s : State) (r : Reg8) (v : Byte) : (s.setReg8 r v).ret = s.ret := by cases r <;> rfl

@[simp] theorem State.setBc_a (s : State) (v : Word) : (s.setBc v).a = s.a := rfl
@[simp] theorem State.setBc_d (s : State) (v : Word) : (s.setBc v).d = s.d := rfl
@[simp] theorem State.setBc_e (s : State) (v : Word) : (s.setBc v).e = s.e := rfl
@[simp] theorem State.setBc_h (s : State) (v : Word) : (s.setBc v).h = s.h := rfl
@[simp] theorem State.setBc_l (s : State) (v : Word) : (s.setBc v).l = s.l := rfl
@[simp] theorem State.setBc_f (s : State) (v : Word) : (s.setBc v).f = s.f := rfl
@[simp] theorem State.setBc_sp (s : State) (v : Word) : (s.setBc v).sp = s.sp := rfl
@[simp] theorem State.setBc_pc (s : State) (v : Word) : (s.setBc v).pc = s.pc := rfl
@[simp] theorem State.setBc_ticks (s : State) (v : Word) : (s.setBc v).ticks = s.ticks := rfl
@[simp] theorem State.setBc_ime (s : State) (v : Word) : (s.setBc v).ime = s.ime := rfl
@[simp] theorem State.setBc_run (s : State) (v : Word) : (s.setBc v).run = s.run := rfl
@[simp] theorem State.setBc_fault (s : State) (v : Word) : (s.setBc v).fault = s.fault := rfl
@[simp] theorem State.setBc_imePending (s : State) (v : Word) : (s.setBc v).imePending = s.imePending := rfl
@[simp] theorem State.setBc_cfg (s : State) (v : Word) : (s.setBc v).cfg = s.cfg := rfl
@[simp] theorem State.setBc_mem (s : State) (v : Word) : (s.setBc v).mem = s.mem := rfl
@[simp] theorem State.setBc_agenda (s : State) (v : Word) : (s.setBc v).agenda = s.agenda := rfl
@[simp] theorem State.setBc_acted (s : State) (v : Word) : (s.setBc v).acted = s.acted := rfl
@[simp] theorem State.setBc_bus (s : State) (v : Word) : (s.setBc v).bus = s.bus := rfl
@[simp] theorem State.setBc_extra (s : State) (v : Word) : (s.setBc v).extra = s.extra := rfl
@[simp] theorem State.setBc_ret (s : State) (v : Word) : (s.setBc v).ret = s.ret := rfl

@[simp] theorem State.setDe_a (s : State) (v : Word) : (s.setDe v).a = s.a := rfl
@[simp] theorem State.setDe_b (s : State) (v : Word) : (s.setDe v).b = s.b := rfl
@[simp] theorem State.setDe_c (s : State) (v : Word) : (s.setDe v).c = s.c := rfl
@[simp] theorem State.setDe_h (s : State) (v : Word) : (s.setDe v).h = s.h := rfl
@[simp] theorem State.setDe_l (s : State) (v : Word) : (s.setDe v).l = s.l := rfl
@[simp] theorem State.setDe_f (s : State) (v : Word) : (s.setDe v).f = s.f := rfl
@[simp] theorem State.setDe_sp (s : State) (v : Word) : (s.setDe v).sp = s.sp := rfl
@[simp] theorem State.setDe_pc (s : State) (v : Word) : (s.setDe v).pc = s.pc := rfl
@[simp] theorem State.setDe_ticks (s : State) (v : Word) : (s.setDe v).ticks = s.ticks := rfl
@[simp] theorem State.setDe_ime (s : State) (v : Word) : (s.setDe v).ime = s.ime := rfl
@[simp] theorem State.setDe_run (s : State) (v : Word) : (s.setDe v).run = s.run := rfl
@[simp] theorem State.setDe_fault (s : State) (v : Word) : (s.setDe v).fault = s.fault := rfl
@[simp] theorem State.setDe_imePending (s : State) (v : Word) : (s.setDe v).imePending = s.imePending := rfl
@[simp] theorem State.setDe_cfg (s : State) (v : Word) : (s.setDe v).cfg = s.cfg := rfl
@[simp] theorem State.setDe_mem (s : State) (v : Word) : (s.setDe v).mem = s.mem := rfl
@[simp] theorem State.setDe_agenda (s : State) (v : Word) : (s.setDe v).agenda = s.agenda := rfl
@[simp] theorem State.setDe_acted (s : State) (v : Word) : (s.setDe v).acted = s.acted := rfl
@[simp] theorem State.setDe_bus (s : State) (v : Word) : (s.setDe v).bus = s.bus := rfl
@[simp] theorem State.setDe_extra (s : State) (v : Word) : (s.setDe v).extra = s.extra := rfl
@[simp] theorem State.setDe_ret (s : State) (v : Word) : (s.setDe v).ret = s.ret := rfl

@[simp] theorem State.setHl_a (s : State) (v : Word) : (s.setHl v).a = s.a := rfl
@[simp] theorem State.setHl_b (s : State) (v : Word) : (s.setHl v).b = s.b := rfl
@[simp] theorem State.setHl_c (s : State) (v : Word) : (s.setHl v).c = s.c := rfl
@[simp] theorem State.setHl_d (s : State) (v : Word) : (s.setHl v).d = s.d := rfl
@[simp] theorem State.setHl_e (s : State) (v : Word) : (s.setHl v).e = s.e := rfl
@[simp] theorem State.setHl_f (s : State) (v : Word) : (s.setHl v).f = s.f := rfl
@[simp] theorem State.setHl_sp (s : State) (v : Word) : (s.setHl v).sp = s.sp := rfl
@[simp] theorem State.setHl_pc (s : State) (v : Word) : (s.setHl v).pc = s.pc := rfl
@[simp] theorem State.setHl_ticks (s : State) (v : Word) : (s.setHl v).ticks = s.ticks := rfl
@[simp] theorem State.setHl_ime (s : State) (v : Word) : (s.setHl v).ime = s.ime := rfl
@[simp] theorem State.setHl_run (s : State) (v : Word) : (s.setHl v).run = s.run := rfl
@[simp] theorem State.setHl_fault (s : State) (v : Word) : (s.setHl v).fault = s.fault := rfl
@[simp] theorem State.setHl_imePending (s : State) (v : Word) : (s.setHl v).imePending = s.imePending := rfl
@[simp] theorem State.setHl_cfg (s : State) (v : Word) : (s.setHl v).cfg = s.cfg := rfl
@[simp] theorem State.setHl_mem (s : State) (v : Word) : (s.setHl v).mem = s.mem := rfl
@[simp] theorem State.setHl_agenda (s : State) (v : Word) : (s.setHl v).agenda = s.agenda := rfl
@[simp] theorem State.setHl_acted (s : State) (v : Word) : (s.setHl v).acted = s.acted := rfl
@[simp] theorem State.setHl_bus (s : State) (v : Word) : (s.setHl v).bus = s.bus := rfl
@[simp] theorem State.setHl_extra (s : State) (v : Word) : (s.setHl v).extra = s.extra := rfl
@[simp] theorem State.setHl_ret (s : State) (v : Word) : (s.setHl v).ret = s.ret := rfl

@[simp] theorem State.setAf_b (s : State) (v : Word) : (s.setAf v).b = s.b := rfl
@[simp] theorem State.setAf_c (s : State) (v : Word) : (s.setAf v).c = s.c := rfl
@[simp] theorem State.setAf_d (s : State) (v : Word) : (s.setAf v).d = s.d := rfl
@[simp] theorem State.setAf_e (s : State) (v : Word) : (s.setAf v).e = s.e := rfl
@[simp] theorem State.setAf_h (s : State) (v : Word) : (s.setAf v).h = s.h := rfl
@[simp] theorem State.setAf_l (s : State) (v : Word) : (s.setAf v).l = s.l := rfl
@[simp] theorem State.setAf_sp (s : State) (v : Word) : (s.setAf v).sp = s.sp := rfl
@[simp] theorem State.setAf_pc (s : State) (v : Word) : (s.setAf v).pc = s.pc := rfl
@[simp] theorem State.setAf_ticks (s : State) (v : Word) : (s.setAf v).ticks = s.ticks := rfl
@[simp] theorem State.setAf_ime (s : State) (v : Word) : (s.setAf v).ime = s.ime := rfl
@[simp] theorem State.setAf_run (s : State) (v : Word) : (s.setAf v).run = s.run := rfl
@[simp] theorem State.setAf_fault (s : State) (v : Word) : (s.setAf v).fault = s.fault := rfl
@[simp] theorem State.setAf_imePending (s : State) (v : Word) : (s.setAf v).imePending = s.imePending := rfl
@[simp] theorem State.setAf_cfg (s : State) (v : Word) : (s.setAf v).cfg = s.cfg := rfl
@[simp] theorem State.setAf_mem (s : State) (v : Word) : (s.setAf v).mem = s.mem := rfl
@[simp] theorem State.setAf_agenda (s : State) (v : Word) : (s.setAf v).agenda = s.agenda := rfl
@[simp] theorem State.setAf_acted (s : State) (v : Word) : (s.setAf v).acted = s.acted := rfl
@[simp] theorem State.setAf_bus (s : State) (v : Word) : (s.setAf v).bus = s.bus := rfl
@[simp] theorem State.setAf_extra (s : State) (v : Word) : (s.setAf v).extra = s.extra := rfl
@[simp] theorem State.setAf_ret (s : State) (v : Word) : (s.setAf v).ret = s.ret := rfl

@[simp] theorem State.setReg16_a (s : State) (p : Reg16) (v : Word) : (s.setReg16 p v).a = s.a := by cases p <;> rfl
@[simp] theorem State.setReg16_f (s : State) (p : Reg16) (v : Word) : (s.setReg16 p v).f = s.f := by cases p <;> rfl
@[simp] theorem State.setReg16_pc (s : State) (p : Reg16) (v : Word) : (s.setReg16 p v).pc = s.pc := by cases p <;> rfl
@[simp] theorem State.setReg16_ticks (s : State) (p : Reg16) (v : Word) : (s.setReg16 p v).ticks = s.ticks := by cases p <;> rfl
@[simp] theorem State.setReg16_ime (s : State) (p : Reg16) (v : Word) : (s.setReg16 p v).ime = s.ime := by cases p <;> rfl
@[simp] theorem State.setReg16_run (s : State) (p : Reg16) (v : Word) : (s.setReg16 p v).run = s.run := by cases p <;> rfl
@[simp] theorem State.setReg16_fault (s : State) (p : Reg16) (v : Word) : (s.setReg16 p v).fault = s.fault := by cases p <;> rfl
@[simp] theorem State.setReg16_imePending (s : State) (p : Reg16) (v : Word) : (s.setReg16 p v).imePending = s.imePending := by cases p <;> rfl
@[simp] theorem State.setReg16_cfg (s : State) (p : Reg16) (v : Word) : (s.setReg16 p v).cfg = s.cfg := by cases p <;> rfl
@[simp] theorem State.setReg16_mem (s : State) (p : Reg16) (v : Word) : (s.setReg16 p v).mem = s.mem := by cases p <;> rfl
@[simp] theorem State.setReg16_agenda (s : State) (p : Reg16) (v : Word) : (s.setReg16 p v).agenda = s.agenda := by cases p <;> rfl
@[simp] theorem State.setReg16_acted (s : State) (p : Reg16) (v : Word) : (s.setReg16 p v).acted = s.acted := by cases p <;> rfl
@[simp] theorem State.setReg16_bus (s : State) (p : Reg16) (v : Word) : (s.setReg16 p v).bus = s.bus := by cases p <;> rfl
@[simp] theorem State.setReg16_extra (s : State) (p : Reg16) (v : Word) : (s.setReg16 p v).extra = s.extra := by cases p <;> rfl
@[simp] theorem State.setReg16_ret (s : State) (p : Reg16) (v : Word) : (s.setReg16 p v).ret = s.ret := by cases p <;> rfl

@[simp] theorem State.setStackReg_sp (s : State) (q : StackReg) (v : Word) : (s.setStackReg q v).sp = s.sp := by cases q <;> rfl
@[simp] theorem State.setStackReg_pc (s : State) (q : StackReg) (v : Word) : (s.setStackReg q v).pc = s.pc := by cases q <;> rfl
@[simp] theorem State.setStackReg_ticks (s : State) (q : StackReg) (v : Word) : (s.setStackReg q v).ticks = s.ticks := by cases q <;> rfl
@[simp] theorem State.setStackReg_ime (s : State) (q : StackReg) (v : Word) : (s.setStackReg q v).ime = s.ime := by cases q <;> rfl
@[simp] theorem State.setStackReg_run (s : State) (q : StackReg) (v : Word) : (s.setStackReg q v).run = s.run := by cases q <;> rfl
@[simp] theorem State.setStackReg_fault (s : State) (q : StackReg) (v : Word) : (s.setStackReg q v).fault = s.fault := by cases q <;> rfl
@[simp] theorem State.setStackReg_imePending (s : State) (q : StackReg) (v : Word) : (s.setStackReg q v).imePending = s.imePending := by cases q <;> rfl
@[simp] theorem State.setStackReg_cfg (s : State) (q : StackReg) (v : Word) : (s.setStackReg q v).cfg = s.cfg := by cases q <;> rfl
@[simp] theorem State.setStackReg_mem (s : State) (q : StackReg) (v : Word) : (s.setStackReg q v).mem = s.mem := by cases q <;> rfl
@[simp] theorem State.setStackReg_agenda (s : State) (q : StackReg) (v : Word) : (s.setStackReg q v).agenda = s.agenda := by cases q <;> rfl
@[simp] theorem State.setStackReg_acted (s : State) (q : StackReg) (v : Word) : (s.setStackReg q v).acted = s.acted := by cases q <;> rfl
@[simp] theorem State.setStackReg_bus (s : State) (q : StackReg) (v : Word) : (s.setStackReg q v).bus = s.bus := by cases q <;> rfl
@[simp] theorem State.setStackReg_extra (s : State) (q : StackReg) (v : Word) : (s.setStackReg q v).extra = s.extra := by cases q <;> rfl
@[simp] theorem State.setStackReg_ret (s : State) (q : StackReg) (v : Word) : (s.setStackReg q v).ret = s.ret := by cases q <;> rfl

@[simp] theorem State.writeTarget_f (s : State) (t : Target8) (v : Byte) : (s.writeTarget t v).f = s.f := by cases t <;> simp [State.writeTarget]
@[simp] theorem State.writeTarget_sp (s : State) (t : Target8) (v : Byte) : (s.writeTarget t v).sp = s.sp := by cases t <;> simp [State.writeTarget]
@[simp] theorem State.writeTarget_pc (s : State) (t : Target8) (v : Byte) : (s.writeTarget t v).pc = s.pc := by cases t <;> simp [State.writeTarget]
@[simp] theorem State.writeTarget_ticks (s : State) (t : Target8) (v : Byte) : (s.writeTarget t v).ticks = s.ticks := by cases t <;> simp [State.writeTarget]
@[simp] theorem State.writeTarget_ime (s : State) (t : Target8) (v : Byte) : (s.writeTarget t v).ime = s.ime := by cases t <;> simp [State.writeTarget]
@[simp] theorem State.writeTarget_run (s : State) (t : Target8) (v : Byte) : (s.writeTarget t v).run = s.run := by cases t <;> simp [State.writeTarget]
@[simp] theorem State.writeTarget_fault (s : State) (t : Target8) (v : Byte) : (s.writeTarget t v).fault = s.fault := by cases t <;> simp [State.writeTarget]
@[simp] theorem State.writeTarget_imePending (s : State) (t : Target8) (v : Byte) : (s.writeTarget t v).imePending = s.imePending := by cases t <;> simp [State.writeTarget]
@[simp] theorem State.writeTarget_cfg (s : State) (t : Target8) (v : Byte) : (s.writeTarget t v).cfg = s.cfg := by cases t <;> simp [State.writeTarget]
@[simp] theorem State.writeTarget_agenda (s : State) (t : Target8) (v : Byte) : (s.writeTarget t v).agenda = s.agenda := by cases t <;> simp [State.writeTarget]
@[simp] theorem State.writeTarget_acted (s : State) (t : Target8) (v : Byte) : (s.writeTarget t v).acted = s.acted := by cases t <;> simp [State.writeTarget]
@[simp] theorem State.writeTarget_extra (s : State) (t : Target8) (v : Byte) : (s.writeTarget t v).extra = s.extra := by cases t <;> simp [State.writeTarget]
@[simp] theorem State.writeTarget_ret (s : State) (t : Target8) (v : Byte) : (s.writeTarget t v).ret = s.ret := by cases t <;> simp [State.writeTarget]

@[simp] theorem State.readTarget_a (s : State) (t : Target8) : ((s.readTarget t).2).a = s.a := by cases t <;> rfl
@[simp] theorem State.readTarget_b (s : State) (t : Target8) : ((s.readTarget t).2).b = s.b := by cases t <;> rfl
@[simp] theorem State.readTarget_c (s : State) (t : Target8) : ((s.readTarget t).2).c = s.c := by cases t <;> rfl
@[simp] theorem State.readTarget_d (s : State) (t : Target8) : ((s.readTarget t).2).d = s.d := by cases t <;> rfl
@[simp] theorem State.readTarget_e (s : State) (t : Target8) : ((s.readTarget t).2).e = s.e := by cases t <;> rfl
@[simp] theorem State.readTarget_h (s : State) (t : Target8) : ((s.readTarget t).2).h = s.h := by cases t <;> rfl
@[simp] theorem State.readTarget_l (s : State) (t : Target8) : ((s.readTarget t).2).l = s.l := by cases t <;> rfl
@[simp] theorem State.readTarget_f (s : State) (t : Target8) : ((s.readTarget t).2).f = s.f := by cases t <;> rfl
@[simp] theorem State.readTarget_sp (s : State) (t : Target8) : ((s.readTarget t).2).sp = s.sp := by cases t <;> rfl
@[simp] theorem State.readTarget_pc (s : State) (t : Target8) : ((s.readTarget t).2).pc = s.pc := by cases t <;> rfl
@[simp] theorem State.readTarget_ticks (s : State) (t : Target8) : ((s.readTarget t).2).ticks = s.ticks := by cases t <;> rfl
@[simp] theorem State.readTarget_ime (s : State) (t : Target8) : ((s.readTarget t).2).ime = s.ime := by cases t <;> rfl
@[simp] theorem State.readTarget_run (s : State) (t : Target8) : ((s.readTarget t).2).run = s.run := by cases t <;> rfl
@[simp] theorem State.readTarget_fault (s : State) (t : Target8) : ((s.readTarget t).2).fault = s.fault := by cases t <;> rfl
@[simp] theorem State.readTarget_imePending (s : State) (t : Target8) : ((s.readTarget t).2).imePending = s.imePending := by cases t <;> rfl
@[simp] theorem State.readTarget_cfg (s : State) (t : Target8) : ((s.readTarget t).2).cfg = s.cfg := by cases t <;> rfl
@[simp] theorem State.readTarget_mem (s : State) (t : Target8) : ((s.readTarget t).2).mem = s.mem := by cases t <;> rfl
@[simp] theorem State.readTarget_agenda (s : State) (t : Target8) : ((s.readTarget t).2).agenda = s.agenda := by cases t <;> rfl
@[simp] theorem State.readTarget_acted (s : State) (t : Target8) : ((s.readTarget t).2).acted = s.acted := by cases t <;> rfl
@[simp] theorem State.readTarget_extra (s : State) (t : Target8) : ((s.readTarget t).2).extra = s.extra := by cases t <;> rfl
@[simp] theorem State.readTarget_ret (s : State) (t : Target8) : ((s.readTarget t).2).ret = s.ret := by cases t <;> rfl

@[simp] theorem State.setFlag_a (s : State) (fl : Flag) (x : Bool) : (s.setFlag fl x).a = s.a := rfl
@[simp] theorem State.setFlag_b (s : State) (fl : Flag) (x : Bool) : (s.setFlag fl x).b = s.b := rfl
@[simp] theorem State.setFlag_c (s : State) (fl : Flag) (x : Bool) : (s.setFlag fl x).c = s.c := rfl
@[simp] theorem State.setFlag_d (s : State) (fl : Flag) (x : Bool) : (s.setFlag fl x).d = s.d := rfl
@[simp] theorem State.setFlag_e (s : State) (fl : Flag) (x : Bool) : (s.setFlag fl x).e = s.e := rfl
@[simp] theorem State.setFlag_h (s : State) (fl : Flag) (x : Bool) : (s.setFlag fl x).h = s.h := rfl
@[simp] theorem State.setFlag_l (s : State) (fl : Flag) (x : Bool) : (s.setFlag fl x).l = s.l := rfl
@[simp] theorem State.setFlag_sp (s : State) (fl : Flag) (x : Bool) : (s.setFlag fl x).sp = s.sp := rfl
@[simp] theorem State.setFlag_pc (s : State) (fl : Flag) (x : Bool) : (s.setFlag fl x).pc = s.pc := rfl
@[simp] theorem State.setFlag_ticks (s : State) (fl : Flag) (x : Bool) : (s.setFlag fl x).ticks = s.ticks := rfl
@[simp] theorem State.setFlag_ime (s : State) (fl : Flag) (x : Bool) : (s.setFlag fl x).ime = s.ime := rfl
@[simp] theorem State.setFlag_run (s : State) (fl : Flag) (x : Bool) : (s.setFlag fl x).run = s.run := rfl
@[simp] theorem State.setFlag_fault (s : State) (fl : Flag) (x : Bool) : (s.setFlag fl x).fault = s.fault := rfl
@[simp] theorem State.setFlag_imePending (s : State) (fl : Flag) (x : Bool) : (s.setFlag fl x).imePending = s.imePending := rfl
@[simp] theorem State.setFlag_cfg (s : State) (fl : Flag) (x : Bool) : (s.setFlag fl x).cfg = s.cfg := rfl
@[simp] theorem State.setFlag_mem (s : State) (fl : Flag) (x : Bool) : (s.setFlag fl x).mem = s.mem := rfl
@[simp] theorem State.setFlag_agenda (s : State) (fl : Flag) (x : Bool) : (s.setFlag fl x).agenda = s.agenda := rfl
@[simp] theorem State.setFlag_acted (s : State) (fl : Flag) (x : Bool) : (s.setFlag fl x).acted = s.acted := rfl
@[simp] theorem State.setFlag_bus (s : State) (fl : Flag) (x : Bool) : (s.setFlag fl x).bus = s.bus := rfl
@[simp] theorem State.setFlag_extra (s : State) (fl : Flag) (x : Bool) : (s.setFlag fl x).extra = s.extra := rfl
@[simp] theorem State.setFlag_ret (s : State) (fl : Flag) (x : Bool) : (s.setFlag fl x).ret = s.ret := rfl

@[simp] theorem State.setZnh_a (s : State) (z n h : Bool) : (s.setZnh z n h).a = s.a := rfl
@[simp] theorem State.setZnh_b (s : State) (z n h : Bool) : (s.setZnh z n h).b = s.b := rfl
@[simp] theorem State.setZnh_c (s : State) (z n h : Bool) : (s.setZnh z n h).c = s.c := rfl
@[simp] theorem State.setZnh_d (s : State) (z n h : Bool) : (s.setZnh z n h).d = s.d := rfl
@[simp] theorem State.setZnh_e (s : State) (z n h : Bool) : (s.setZnh z n h).e = s.e := rfl
@[simp] theorem State.setZnh_h (s : State) (z n h : Bool) : (s.setZnh z n h).h = s.h := rfl
@[simp] theorem State.setZnh_l (s : State) (z n h : Bool) : (s.setZnh z n h).l = s.l := rfl
@[simp] theorem State.setZnh_sp (s : State) (z n h : Bool) : (s.setZnh z n h).sp = s.sp := rfl
@[simp] theorem State.setZnh_pc (s : State) (z n h : Bool) : (s.setZnh z n h).pc = s.pc := rfl
@[simp] theorem State.setZnh_ticks (s : State) (z n h : Bool) : (s.setZnh z n h).ticks = s.ticks := rfl
@[simp] theorem State.setZnh_ime (s : State) (z n h : Bool) : (s.setZnh z n h).ime = s.ime := rfl
@[simp] theorem State.setZnh_run (s : State) (z n h : Bool) : (s.setZnh z n h).run = s.run := rfl
@[simp] theorem State.setZnh_fault (s : State) (z n h : Bool) : (s.setZnh z n h).fault = s.fault := rfl
@[simp] theorem State.setZnh_imePending (s : State) (z n h : Bool) : (s.setZnh z n h).imePending = s.imePending := rfl
@[simp] theorem State.setZnh_cfg (s : State) (z n h : Bool) : (s.setZnh z n h).cfg = s.cfg := rfl
@[simp] theorem State.setZnh_mem (s : State) (z n h : Bool) : (s.setZnh z n h).mem = s.mem := rfl
@[simp] theorem State.setZnh_agenda (s : State) (z n h : Bool) : (s.setZnh z n h).agenda = s.agenda := rfl
@[simp] theorem State.setZnh_acted (s : State) (z n h : Bool) : (s.setZnh z n h).acted = s.acted := rfl
@[simp] theorem State.setZnh_bus (s : State) (z n h : Bool) : (s.setZnh z n h).bus = s.bus := rfl
@[simp] theorem State.setZnh_extra (s : State) (z n h : Bool) : (s.setZnh z n h).extra = s.extra := rfl
@[simp] theorem State.setZnh_ret (s : State) (z n h : Bool) : (s.setZnh z n h).ret = s.ret := rfl

@[simp] theorem State.setNhc_a (s : State) (n h c : Bool) : (s.setNhc n h c).a = s.a := rfl
@[simp] theorem State.setNhc_b (s : State) (n h c : Bool) : (s.setNhc n h c).b = s.b := rfl
@[simp] theorem State.setNhc_c (s : State) (n h c : Bool) : (s.setNhc n h c).c = s.c := rfl
@[simp] theorem State.setNhc_d (s : State) (n h c : Bool) : (s.setNhc n h c).d = s.d := rfl
@[simp] theorem State.setNhc_e (s : State) (n h c : Bool) : (s.setNhc n h c).e = s.e := rfl
@[simp] theorem State.setNhc_h (s : State) (n h c : Bool) : (s.setNhc n h c).h = s.h := rfl
@[simp] theorem State.setNhc_l (s : State) (n h c : Bool) : (s.setNhc n h c).l = s.l := rfl
@[simp] theorem State.setNhc_sp (s : State) (n h c : Bool) : (s.setNhc n h c).sp = s.sp := rfl
@[simp] theorem State.setNhc_pc (s : State) (n h c : Bool) : (s.setNhc n h c).pc = s.pc := rfl
@[simp] theorem State.setNhc_ticks (s : State) (n h c : Bool) : (s.setNhc n h c).ticks = s.ticks := rfl
@[simp] theorem State.setNhc_ime (s : State) (n h c : Bool) : (s.setNhc n h c).ime = s.ime := rfl
@[simp] theorem State.setNhc_run (s : State) (n h c : Bool) : (s.setNhc n h c).run = s.run := rfl
@[simp] theorem State.setNhc_fault (s : State) (n h c : Bool) : (s.setNhc n h c).fault = s.fault := rfl
@[simp] theorem State.setNhc_imePending (s : State) (n h c : Bool) : (s.setNhc n h c).imePending = s.imePending := rfl
@[simp] theorem State.setNhc_cfg (s : State) (n h c : Bool) : (s.setNhc n h c).cfg = s.cfg := rfl
@[simp] theorem State.setNhc_mem (s : State) (n h c : Bool) : (s.setNhc n h c).mem = s.mem := rfl
@[simp] theorem State.setNhc_agenda (s : State) (n h c : Bool) : (s.setNhc n h c).agenda = s.agenda := rfl
@[simp] theorem State.setNhc_acted (s : State) (n h c : Bool) : (s.setNhc n h c).acted = s.acted := rfl
@[simp] theorem State.setNhc_bus (s : State) (n h c : Bool) : (s.setNhc n h c).bus = s.bus := rfl
@[simp] theorem State.setNhc_extra (s : State) (n h c : Bool) : (s.setNhc n h c).extra = s.extra := rfl
@[simp] theorem State.setNhc_ret (s : State) (n h c : Bool) : (s.setNhc n h c).ret = s.ret := rfl

@[simp] theorem State.setZnhc_a (s : State) (z n h c : Bool) : (s.setZnhc z n h c).a = s.a := rfl
@[simp] theorem State.setZnhc_b (s : State) (z n h c : Bool) : (s.setZnhc z n h c).b = s.b := rfl
@[simp] theorem State.setZnhc_c (s : State) (z n h c : Bool) : (s.setZnhc z n h c).c = s.c := rfl
@[simp] theorem State.setZnhc_d (s : State) (z n h c : Bool) : (s.setZnhc z n h c).d = s.d := rfl
@[simp] theorem State.setZnhc_e (s : State) (z n h c : Bool) : (s.setZnhc z n h c).e = s.e := rfl
@[simp] theorem State.setZnhc_h (s : State) (z n h c : Bool) : (s.setZnhc z n h c).h = s.h := rfl
@[simp] theorem State.setZnhc_l (s : State) (z n h c : Bool) : (s.setZnhc z n h c).l = s.l := rfl
@[simp] theorem State.setZnhc_sp (s : State) (z n h c : Bool) : (s.setZnhc z n h c).sp = s.sp := rfl
@[simp] theorem State.setZnhc_pc (s : State) (z n h c : Bool) : (s.setZnhc z n h c).pc = s.pc := rfl
@[simp] theorem State.setZnhc_ticks (s : State) (z n h c : Bool) : (s.setZnhc z n h c).ticks = s.ticks := rfl
@[simp] theorem State.setZnhc_ime (s : State) (z n h c : Bool) : (s.setZnhc z n h c).ime = s.ime := rfl
@[simp] theorem State.setZnhc_run (s : State) (z n h c : Bool) : (s.setZnhc z n h c).run = s.run := rfl
@[simp] theorem State.setZnhc_fault (s : State) (z n h c : Bool) : (s.setZnhc z n h c).fault = s.fault := rfl
@[simp] theorem State.setZnhc_imePending (s : State) (z n h c : Bool) : (s.setZnhc z n h c).imePending = s.imePending := rfl
@[simp] theorem State.setZnhc_cfg (s : State) (z n h c : Bool) : (s.setZnhc z n h c).cfg = s.cfg := rfl
@[simp] theorem State.setZnhc_mem (s : State) (z n h c : Bool) : (s.setZnhc z n h c).mem = s.mem := rfl
@[simp] theorem State.setZnhc_agenda (s : State) (z n h c : Bool) : (s.setZnhc z n h c).agenda = s.agenda := rfl
@[simp] theorem State.setZnhc_acted (s : State) (z n h c : Bool) : (s.setZnhc z n h c).acted = s.acted := rfl
@[simp] theorem State.setZnhc_bus (s : State) (z n h c : Bool) : (s.setZnhc z n h c).bus = s.bus := rfl
@[simp] theorem State.setZnhc_extra (s : State) (z n h c : Bool) : (s.setZnhc z n h c).extra = s.extra := rfl
@[simp] theorem State.setZnhc_ret (s : State) (z n h c : Bool) : (s.setZnhc z n h c).ret = s.ret := rfl

@[simp] theorem State.jump_a (s : State) (target : Word) : (s.jump target).a = s.a := rfl
@[simp] theorem State.jump_b (s : State) (target : Word) : (s.jump target).b = s.b := rfl
@[simp] theorem State.jump_c (s : State) (target : Word) : (s.jump target).c = s.c := rfl
@[simp] theorem State.jump_d (s : State) (target : Word) : (s.jump target).d = s.d := rfl
@[simp] theorem State.jump_e (s : State) (target : Word) : (s.jump target).e = s.e := rfl
@[simp] theorem State.jump_h (s : State) (target : Word) : (s.jump target).h = s.h := rfl
@[simp] theorem State.jump_l (s : State) (target : Word) : (s.jump target).l = s.l := rfl
@[simp] theorem State.jump_f (s : State) (target : Word) : (s.jump target).f = s.f := rfl
@[simp] theorem State.jump_sp (s : State) (target : Word) : (s.jump target).sp = s.sp := rfl
@[simp] theorem State.jump_ticks (s : State) (target : Word) : (s.jump target).ticks = s.ticks := rfl
@[simp] theorem State.jump_ime (s : State) (target : Word) : (s.jump target).ime = s.ime := rfl
@[simp] theorem State.jump_run (s : State) (target : Word) : (s.jump target).run = s.run := rfl
@[simp] theorem State.jump_fault (s : State) (target : Word) : (s.jump target).fault = s.fault := rfl
@[simp] theorem State.jump_imePending (s : State) (target : Word) : (s.jump target).imePending = s.imePending := rfl
@[simp] theorem State.jump_cfg (s : State) (target : Word) : (s.jump target).cfg = s.cfg := rfl
@[simp] theorem State.jump_mem (s : State) (target : Word) : (s.jump target).mem = s.mem := rfl
@[simp] theorem State.jump_agenda (s : State) (target : Word) : (s.jump target).agenda = s.agenda := rfl
@[simp] theorem State.jump_acted (s : State) (target : Word) : (s.jump target).acted = s.acted := rfl
@[simp] theorem State.jump_bus (s : State) (target : Word) : (s.jump target).bus = s.bus := rfl
@[simp] theorem State.jump_extra (s : State) (target : Word) : (s.jump target).extra = s.extra := rfl
@[simp] theorem State.jump_ret (s : State) (target : Word) : (s.jump target).ret = s.ret := rfl

@[simp] theorem State.call_a (s : State) (target : Word) : (s.call target).a = s.a := rfl
@[simp] theorem State.call_b (s : State) (target : Word) : (s.call target).b = s.b := rfl
@[simp] theorem State.call_c (s : State) (target : Word) : (s.call target).c = s.c := rfl
@[simp] theorem State.call_d (s : State) (target : Word) : (s.call target).d = s.d := rfl
@[simp] theorem State.call_e (s : State) (target : Word) : (s.call target).e = s.e := rfl
@[simp] theorem State.call_h (s : State) (target : Word) : (s.call target).h = s.h := rfl
@[simp] theorem State.call_l (s : State) (target : Word) : (s.call target).l = s.l := rfl
@[simp] theorem State.call_f (s : State) (target : Word) : (s.call target).f = s.f := rfl
@[simp] theorem State.call_ticks (s : State) (target : Word) : (s.call target).ticks = s.ticks := rfl
@[simp] theorem State.call_ime (s : State) (target : Word) : (s.call target).ime = s.ime := rfl
@[simp] theorem State.call_run (s : State) (target : Word) : (s.call target).run = s.run := rfl
@[simp] theorem State.call_fault (s : State) (target : Word) : (s.call target).fault = s.fault := rfl
@[simp] theorem State.call_imePending (s : State) (target : Word) : (s.call target).imePending = s.imePending := rfl
@[simp] theorem State.call_cfg (s : State) (target : Word) : (s.call target).cfg = s.cfg := rfl
@[simp] theorem State.call_agenda (s : State) (target : Word) : (s.call target).agenda = s.agenda := rfl
@[simp] theorem State.call_acted (s : State) (target : Word) : (s.call target).acted = s.acted := rfl
@[simp] theorem State.call_extra (s : State) (target : Word) : (s.call target).extra = s.extra := rfl
@[simp] theorem State.call_ret (s : State) (target : Word) : (s.call target).ret = s.ret := rfl

@[simp] theorem State.popPc_a (s : State) : (s.popPc).a = s.a := rfl
@[simp] theorem State.popPc_b (s : State) : (s.popPc).b = s.b := rfl
@[simp] theorem State.popPc_c (s : State) : (s.popPc).c = s.c := rfl
@[simp] theorem State.popPc_d (s : State) : (s.popPc).d = s.d := rfl
@[simp] theorem State.popPc_e (s : State) : (s.popPc).e = s.e := rfl
@[simp] theorem State.popPc_h (s : State) : (s.popPc).h = s.h := rfl
@[simp] theorem State.popPc_l (s : State) : (s.popPc).l = s.l := rfl
@[simp] theorem State.popPc_f (s : State) : (s.popPc).f = s.f := rfl
@[simp] theorem State.popPc_ticks (s : State) : (s.popPc).ticks = s.ticks := rfl
@[simp] theorem State.popPc_ime (s : State) : (s.popPc).ime = s.ime := rfl
@[simp] theorem State.popPc_run (s : State) : (s.popPc).run = s.run := rfl
@[simp] theorem State.popPc_fault (s : State) : (s.popPc).fault = s.fault := rfl
@[simp] theorem State.popPc_imePending (s : State) : (s.popPc).imePending = s.imePending := rfl
@[simp] theorem State.popPc_cfg (s : State) : (s.popPc).cfg = s.cfg := rfl
@[simp] theorem State.popPc_mem (s : State) : (s.popPc).mem = s.mem := rfl
@[simp] theorem State.popPc_agenda (s : State) : (s.popPc).agenda = s.agenda := rfl
@[simp] theorem State.popPc_acted (s : State) : (s.popPc).acted = s.acted := rfl
@[simp] theorem State.popPc_extra (s : State) : (s.popPc).extra = s.extra := rfl
@[simp] theorem State.popPc_ret (s : State) : (s.popPc).ret = s.ret := rfl

@[simp] theorem State.idleStep_a (s : State) : (s.idleStep).a = s.a := rfl
@[simp] theorem State.idleStep_b (s : State) : (s.idleStep).b = s.b := rfl
@[simp] theorem State.idleStep_c (s : State) : (s.idleStep).c = s.c := rfl
@[simp] theorem State.idleStep_d (s : State) : (s.idleStep).d = s.d := rfl
@[simp] theorem State.idleStep_e (s : State) : (s.idleStep).e = s.e := rfl
@[simp] theorem State.idleStep_h (s : State) : (s.idleStep).h = s.h := rfl
@[simp] theorem State.idleStep_l (s : State) : (s.idleStep).l = s.l := rfl
@[simp] theorem State.idleStep_f (s : State) : (s.idleStep).f = s.f := rfl
@[simp] theorem State.idleStep_sp (s : State) : (s.idleStep).sp = s.sp := rfl
@[simp] theorem State.idleStep_pc (s : State) : (s.idleStep).pc = s.pc := rfl
@[simp] theorem State.idleStep_ime (s : State) : (s.idleStep).ime = s.ime := rfl
@[simp] theorem State.idleStep_run (s : State) : (s.idleStep).run = s.run := rfl
@[simp] theorem State.idleStep_fault (s : State) : (s.idleStep).fault = s.fault := rfl
@[simp] theorem State.idleStep_imePending (s : State) : (s.idleStep).imePending = s.imePending := rfl
@[simp] theorem State.idleStep_cfg (s : State) : (s.idleStep).cfg = s.cfg := rfl
@[simp] theorem State.idleStep_mem (s : State) : (s.idleStep).mem = s.mem := rfl
@[simp] theorem State.idleStep_agenda (s : State) : (s.idleStep).agenda = s.agenda := rfl
@[simp] theorem State.idleStep_acted (s : State) : (s.idleStep).acted = s.acted := rfl
@[simp] theorem State.idleStep_bus (s : State) : (s.idleStep).bus = s.bus := rfl
@[simp] theorem State.idleStep_extra (s : State) : (s.idleStep).extra = s.extra := rfl

@[simp] theorem State.finishStep_a (s : State) (pend : Bool) (cost : Nat) : (s.finishStep pend cost).a = s.a := by unfold State.finishStep; dsimp only; split <;> rfl
@[simp] theorem State.finishStep_b (s : State) (pend : Bool) (cost : Nat) : (s.finishStep pend cost).b = s.b := by unfold State.finishStep; dsimp only; split <;> rfl
@[simp] theorem State.finishStep_c (s : State) (pend : Bool) (cost : Nat) : (s.finishStep pend cost).c = s.c := by unfold State.finishStep; dsimp only; split <;> rfl
@[simp] theorem State.finishStep_d (s : State) (pend : Bool) (cost : Nat) : (s.finishStep pend cost).d = s.d := by unfold State.finishStep; dsimp only; split <;> rfl
@[simp] theorem State.finishStep_e (s : State) (pend : Bool) (cost : Nat) : (s.finishStep pend cost).e = s.e := by unfold State.finishStep; dsimp only; split <;> rfl
@[simp] theorem State.finishStep_h (s : State) (pend : Bool) (cost : Nat) : (s.finishStep pend cost).h = s.h := by unfold State.finishStep; dsimp only; split <;> rfl
@[simp] theorem State.finishStep_l (s : State) (pend : Bool) (cost : Nat) : (s.finishStep pend cost).l = s.l := by unfold State.finishStep; dsimp only; split <;> rfl
@[simp] theorem State.finishStep_f (s : State) (pend : Bool) (cost : Nat) : (s.finishStep pend cost).f = s.f := by unfold State.finishStep; dsimp only; split <;> rfl
@[simp] theorem State.finishStep_sp (s : State) (pend : Bool) (cost : Nat) : (s.finishStep pend cost).sp = s.sp := by unfold State.finishStep; dsimp only; split <;> rfl
@[simp] theorem State.finishStep_pc (s : State) (pend : Bool) (cost : Nat) : (s.finishStep pend cost).pc = s.pc := by unfold State.finishStep; dsimp only; split <;> rfl
@[simp] theorem State.finishStep_run (s : State) (pend : Bool) (cost : Nat) : (s.finishStep pend cost).run = s.run := by unfold State.finishStep; dsimp only; split <;> rfl
@[simp] theorem State.finishStep_fault (s : State) (pend : Bool) (cost : Nat) : (s.finishStep pend cost).fault = s.fault := by unfold State.finishStep; dsimp only; split <;> rfl
@[simp] theorem State.finishStep_cfg (s : State) (pend : Bool) (cost : Nat) : (s.finishStep pend cost).cfg = s.cfg := by unfold State.finishStep; dsimp only; split <;> rfl
@[simp] theorem State.finishStep_mem (s : State) (pend : Bool) (cost : Nat) : (s.finishStep pend cost).mem = s.mem := by unfold State.finishStep; dsimp only; split <;> rfl
@[simp] theorem State.finishStep_agenda (s : State) (pend : Bool) (cost : Nat) : (s.finishStep pend cost).agenda = s.agenda := by unfold State.finishStep; dsimp only; split <;> rfl
@[simp] theorem State.finishStep_acted (s : State) (pend : Bool) (cost : Nat) : (s.finishStep pend cost).acted = s.acted := by unfold State.finishStep; dsimp only; split <;> rfl
@[simp] theorem State.finishStep_bus (s : State) (pend : Bool) (cost : Nat) : (s.finishStep pend cost).bus = s.bus := by unfold State.finishStep; dsimp only; split <;> rfl

end Sys2Proof.Machine
end

