-- ==== Sys2Proof/Tests/Slice0.lean ====
section
/-! SUPPORT. Small tests, each expected result from the spec: words decoded as the grids of R81 and R82 give them, the
one-step vectors V1 to V98 of 95_test_vectors.md, and a witness for the hypotheses of each statement. -/

namespace Sys2Proof.Tests

open Sys2Proof Sys2Proof.Machine Sys2Proof.Claims

/-! ## Well-formedness (R87, R226) -/

/-- The escape alone is no instruction. -/
theorem test_wf_escape_refused : Instr.wf .prefix_CB = false := by decide

theorem test_wf_secondary_accepted : Instr.wf (.bit_b_mHL 7) = true := by decide

/-! ## Decoding: each row of the grids of R81 and R82, operands 0xA5 and 0x34 0x12 -/

/-- The bytes decode to the instruction, with nothing left over, and the instruction encodes to them. -/
def decodesTo (bytes : List Byte) (i : Instr) : Bool :=
  encode i == bytes && match decode bytes with
    | .ok (j, rest) => decide (j = i) && rest.isEmpty
    | .error _ => false

/-- A list of words decodes to a list of instructions. -/
def decodesAll (l : List (List Byte × Instr)) : Bool := l.all fun p => decodesTo p.1 p.2

theorem test_decode_0x : decodesAll [
    ([0x00], .nop), ([0x01, 0x34, 0x12], .ld_BC_d16 0x1234), ([0x02], .ld_mBC_A), ([0x03], .inc_BC),
    ([0x04], .inc_B), ([0x05], .dec_B), ([0x06, 0xA5], .ld_B_d8 0xA5), ([0x07], .rlca),
    ([0x08, 0x34, 0x12], .ld_ma16_SP 0x1234), ([0x09], .add_HL_BC), ([0x0A], .ld_A_mBC), ([0x0B], .dec_BC),
    ([0x0C], .inc_C), ([0x0D], .dec_C), ([0x0E, 0xA5], .ld_C_d8 0xA5), ([0x0F], .rrca)] = true := by decide

theorem test_decode_1x : decodesAll [
    ([0x10], .stop), ([0x11, 0x34, 0x12], .ld_DE_d16 0x1234), ([0x12], .ld_mDE_A), ([0x13], .inc_DE),
    ([0x14], .inc_D), ([0x15], .dec_D), ([0x16, 0xA5], .ld_D_d8 0xA5), ([0x17], .rla), ([0x18, 0xA5], .jr_e8 0xA5),
    ([0x19], .add_HL_DE), ([0x1A], .ld_A_mDE), ([0x1B], .dec_DE), ([0x1C], .inc_E), ([0x1D], .dec_E),
    ([0x1E, 0xA5], .ld_E_d8 0xA5), ([0x1F], .rra)] = true := by decide

theorem test_decode_2x : decodesAll [
    ([0x20, 0xA5], .jr_NZ_e8 0xA5), ([0x21, 0x34, 0x12], .ld_HL_d16 0x1234), ([0x22], .ld_mHLi_A), ([0x23], .inc_HL),
    ([0x24], .inc_H), ([0x25], .dec_H), ([0x26, 0xA5], .ld_H_d8 0xA5), ([0x27], .daa), ([0x28, 0xA5], .jr_Z_e8 0xA5),
    ([0x29], .add_HL_HL), ([0x2A], .ld_A_mHLi), ([0x2B], .dec_HL), ([0x2C], .inc_L), ([0x2D], .dec_L),
    ([0x2E, 0xA5], .ld_L_d8 0xA5), ([0x2F], .cpl)] = true := by decide

theorem test_decode_3x : decodesAll [
    ([0x30, 0xA5], .jr_NC_e8 0xA5), ([0x31, 0x34, 0x12], .ld_SP_d16 0x1234), ([0x32], .ld_mHLd_A), ([0x33], .inc_SP),
    ([0x34], .inc_mHL), ([0x35], .dec_mHL), ([0x36, 0xA5], .ld_mHL_d8 0xA5), ([0x37], .scf),
    ([0x38, 0xA5], .jr_C_e8 0xA5), ([0x39], .add_HL_SP), ([0x3A], .ld_A_mHLd), ([0x3B], .dec_SP), ([0x3C], .inc_A),
    ([0x3D], .dec_A), ([0x3E, 0xA5], .ld_A_d8 0xA5), ([0x3F], .ccf)] = true := by decide

theorem test_decode_4x : decodesAll [
    ([0x40], .ld_B_B), ([0x41], .ld_B_C), ([0x42], .ld_B_D), ([0x43], .ld_B_E), ([0x44], .ld_B_H), ([0x45], .ld_B_L),
    ([0x46], .ld_B_mHL), ([0x47], .ld_B_A), ([0x48], .ld_C_B), ([0x49], .ld_C_C), ([0x4A], .ld_C_D),
    ([0x4B], .ld_C_E), ([0x4C], .ld_C_H), ([0x4D], .ld_C_L), ([0x4E], .ld_C_mHL), ([0x4F], .ld_C_A)] = true := by decide

theorem test_decode_5x : decodesAll [
    ([0x50], .ld_D_B), ([0x51], .ld_D_C), ([0x52], .ld_D_D), ([0x53], .ld_D_E), ([0x54], .ld_D_H), ([0x55], .ld_D_L),
    ([0x56], .ld_D_mHL), ([0x57], .ld_D_A), ([0x58], .ld_E_B), ([0x59], .ld_E_C), ([0x5A], .ld_E_D),
    ([0x5B], .ld_E_E), ([0x5C], .ld_E_H), ([0x5D], .ld_E_L), ([0x5E], .ld_E_mHL), ([0x5F], .ld_E_A)] = true := by decide

theorem test_decode_6x : decodesAll [
    ([0x60], .ld_H_B), ([0x61], .ld_H_C), ([0x62], .ld_H_D), ([0x63], .ld_H_E), ([0x64], .ld_H_H), ([0x65], .ld_H_L),
    ([0x66], .ld_H_mHL), ([0x67], .ld_H_A), ([0x68], .ld_L_B), ([0x69], .ld_L_C), ([0x6A], .ld_L_D),
    ([0x6B], .ld_L_E), ([0x6C], .ld_L_H), ([0x6D], .ld_L_L), ([0x6E], .ld_L_mHL), ([0x6F], .ld_L_A)] = true := by decide

theorem test_decode_7x : decodesAll [
    ([0x70], .ld_mHL_B), ([0x71], .ld_mHL_C), ([0x72], .ld_mHL_D), ([0x73], .ld_mHL_E), ([0x74], .ld_mHL_H),
    ([0x75], .ld_mHL_L), ([0x76], .halt), ([0x77], .ld_mHL_A), ([0x78], .ld_A_B), ([0x79], .ld_A_C),
    ([0x7A], .ld_A_D), ([0x7B], .ld_A_E), ([0x7C], .ld_A_H), ([0x7D], .ld_A_L), ([0x7E], .ld_A_mHL), ([0x7F], .ld_A_A)] = true := by decide

theorem test_decode_8x : decodesAll [
    ([0x80], .add_A_B), ([0x81], .add_A_C), ([0x82], .add_A_D), ([0x83], .add_A_E), ([0x84], .add_A_H),
    ([0x85], .add_A_L), ([0x86], .add_A_mHL), ([0x87], .add_A_A), ([0x88], .adc_A_B), ([0x89], .adc_A_C),
    ([0x8A], .adc_A_D), ([0x8B], .adc_A_E), ([0x8C], .adc_A_H), ([0x8D], .adc_A_L), ([0x8E], .adc_A_mHL),
    ([0x8F], .adc_A_A)] = true := by decide

theorem test_decode_9x : decodesAll [
    ([0x90], .sub_B), ([0x91], .sub_C), ([0x92], .sub_D), ([0x93], .sub_E), ([0x94], .sub_H), ([0x95], .sub_L),
    ([0x96], .sub_mHL), ([0x97], .sub_A), ([0x98], .sbc_A_B), ([0x99], .sbc_A_C), ([0x9A], .sbc_A_D),
    ([0x9B], .sbc_A_E), ([0x9C], .sbc_A_H), ([0x9D], .sbc_A_L), ([0x9E], .sbc_A_mHL), ([0x9F], .sbc_A_A)] = true := by decide

theorem test_decode_Ax : decodesAll [
    ([0xA0], .and_B), ([0xA1], .and_C), ([0xA2], .and_D), ([0xA3], .and_E), ([0xA4], .and_H), ([0xA5], .and_L),
    ([0xA6], .and_mHL), ([0xA7], .and_A), ([0xA8], .xor_B), ([0xA9], .xor_C), ([0xAA], .xor_D), ([0xAB], .xor_E),
    ([0xAC], .xor_H), ([0xAD], .xor_L), ([0xAE], .xor_mHL), ([0xAF], .xor_A)] = true := by decide

theorem test_decode_Bx : decodesAll [
    ([0xB0], .or_B), ([0xB1], .or_C), ([0xB2], .or_D), ([0xB3], .or_E), ([0xB4], .or_H), ([0xB5], .or_L),
    ([0xB6], .or_mHL), ([0xB7], .or_A), ([0xB8], .cp_B), ([0xB9], .cp_C), ([0xBA], .cp_D), ([0xBB], .cp_E),
    ([0xBC], .cp_H), ([0xBD], .cp_L), ([0xBE], .cp_mHL), ([0xBF], .cp_A)] = true := by decide

theorem test_decode_Cx : decodesAll [
    ([0xC0], .ret_NZ), ([0xC1], .pop_BC), ([0xC2, 0x34, 0x12], .jp_NZ_a16 0x1234),
    ([0xC3, 0x34, 0x12], .jp_a16 0x1234), ([0xC4, 0x34, 0x12], .call_NZ_a16 0x1234), ([0xC5], .push_BC),
    ([0xC6, 0xA5], .add_A_d8 0xA5), ([0xC7], .rst_00), ([0xC8], .ret_Z), ([0xC9], .ret),
    ([0xCA, 0x34, 0x12], .jp_Z_a16 0x1234), ([0xCC, 0x34, 0x12], .call_Z_a16 0x1234),
    ([0xCD, 0x34, 0x12], .call_a16 0x1234), ([0xCE, 0xA5], .adc_A_d8 0xA5), ([0xCF], .rst_08)] = true := by decide

theorem test_decode_Dx : decodesAll [
    ([0xD0], .ret_NC), ([0xD1], .pop_DE), ([0xD2, 0x34, 0x12], .jp_NC_a16 0x1234), ([0xD3], .illegal_D3),
    ([0xD4, 0x34, 0x12], .call_NC_a16 0x1234), ([0xD5], .push_DE), ([0xD6, 0xA5], .sub_d8 0xA5), ([0xD7], .rst_10),
    ([0xD8], .ret_C), ([0xD9], .reti), ([0xDA, 0x34, 0x12], .jp_C_a16 0x1234), ([0xDB], .illegal_DB),
    ([0xDC, 0x34, 0x12], .call_C_a16 0x1234), ([0xDD], .illegal_DD), ([0xDE, 0xA5], .sbc_A_d8 0xA5), ([0xDF], .rst_18)] = true := by decide

theorem test_decode_Ex : decodesAll [
    ([0xE0, 0xA5], .ldh_ma8_A 0xA5), ([0xE1], .pop_HL), ([0xE2], .ld_mC_A), ([0xE3], .illegal_E3),
    ([0xE4], .illegal_E4), ([0xE5], .push_HL), ([0xE6, 0xA5], .and_d8 0xA5), ([0xE7], .rst_20),
    ([0xE8, 0xA5], .add_SP_e8 0xA5), ([0xE9], .jp_HL), ([0xEA, 0x34, 0x12], .ld_ma16_A 0x1234),
    ([0xEB], .illegal_EB), ([0xEC], .illegal_EC), ([0xED], .illegal_ED), ([0xEE, 0xA5], .xor_d8 0xA5),
    ([0xEF], .rst_28)] = true := by decide

theorem test_decode_Fx : decodesAll [
    ([0xF0, 0xA5], .ldh_A_ma8 0xA5), ([0xF1], .pop_AF), ([0xF2], .ld_A_mC), ([0xF3], .di), ([0xF4], .illegal_F4),
    ([0xF5], .push_AF), ([0xF6, 0xA5], .or_d8 0xA5), ([0xF7], .rst_30), ([0xF8, 0xA5], .ld_HL_SPe8 0xA5),
    ([0xF9], .ld_SP_HL), ([0xFA, 0x34, 0x12], .ld_A_ma16 0x1234), ([0xFB], .ei), ([0xFC], .illegal_FC),
    ([0xFD], .illegal_FD), ([0xFE, 0xA5], .cp_d8 0xA5), ([0xFF], .rst_38)] = true := by decide

theorem test_decode_cb_0x : decodesAll [
    ([0xCB, 0x00], .rlc_r .b), ([0xCB, 0x01], .rlc_r .c), ([0xCB, 0x02], .rlc_r .d), ([0xCB, 0x03], .rlc_r .e),
    ([0xCB, 0x04], .rlc_r .h), ([0xCB, 0x05], .rlc_r .l), ([0xCB, 0x06], .rlc_mHL), ([0xCB, 0x07], .rlc_r .a),
    ([0xCB, 0x08], .rrc_r .b), ([0xCB, 0x09], .rrc_r .c), ([0xCB, 0x0A], .rrc_r .d), ([0xCB, 0x0B], .rrc_r .e),
    ([0xCB, 0x0C], .rrc_r .h), ([0xCB, 0x0D], .rrc_r .l), ([0xCB, 0x0E], .rrc_mHL), ([0xCB, 0x0F], .rrc_r .a)] = true := by decide

theorem test_decode_cb_1x : decodesAll [
    ([0xCB, 0x10], .rl_r .b), ([0xCB, 0x11], .rl_r .c), ([0xCB, 0x12], .rl_r .d), ([0xCB, 0x13], .rl_r .e),
    ([0xCB, 0x14], .rl_r .h), ([0xCB, 0x15], .rl_r .l), ([0xCB, 0x16], .rl_mHL), ([0xCB, 0x17], .rl_r .a),
    ([0xCB, 0x18], .rr_r .b), ([0xCB, 0x19], .rr_r .c), ([0xCB, 0x1A], .rr_r .d), ([0xCB, 0x1B], .rr_r .e),
    ([0xCB, 0x1C], .rr_r .h), ([0xCB, 0x1D], .rr_r .l), ([0xCB, 0x1E], .rr_mHL), ([0xCB, 0x1F], .rr_r .a)] = true := by decide

theorem test_decode_cb_2x : decodesAll [
    ([0xCB, 0x20], .sla_r .b), ([0xCB, 0x21], .sla_r .c), ([0xCB, 0x22], .sla_r .d), ([0xCB, 0x23], .sla_r .e),
    ([0xCB, 0x24], .sla_r .h), ([0xCB, 0x25], .sla_r .l), ([0xCB, 0x26], .sla_mHL), ([0xCB, 0x27], .sla_r .a),
    ([0xCB, 0x28], .sra_r .b), ([0xCB, 0x29], .sra_r .c), ([0xCB, 0x2A], .sra_r .d), ([0xCB, 0x2B], .sra_r .e),
    ([0xCB, 0x2C], .sra_r .h), ([0xCB, 0x2D], .sra_r .l), ([0xCB, 0x2E], .sra_mHL), ([0xCB, 0x2F], .sra_r .a)] = true := by decide

theorem test_decode_cb_3x : decodesAll [
    ([0xCB, 0x30], .swap_r .b), ([0xCB, 0x31], .swap_r .c), ([0xCB, 0x32], .swap_r .d), ([0xCB, 0x33], .swap_r .e),
    ([0xCB, 0x34], .swap_r .h), ([0xCB, 0x35], .swap_r .l), ([0xCB, 0x36], .swap_mHL), ([0xCB, 0x37], .swap_r .a),
    ([0xCB, 0x38], .srl_r .b), ([0xCB, 0x39], .srl_r .c), ([0xCB, 0x3A], .srl_r .d), ([0xCB, 0x3B], .srl_r .e),
    ([0xCB, 0x3C], .srl_r .h), ([0xCB, 0x3D], .srl_r .l), ([0xCB, 0x3E], .srl_mHL), ([0xCB, 0x3F], .srl_r .a)] = true := by decide

theorem test_decode_cb_bit : decodesAll [
    ([0xCB, 0x41], .bit_b_r 0 .c), ([0xCB, 0x46], .bit_b_mHL 0), ([0xCB, 0x47], .bit_b_r 0 .a),
    ([0xCB, 0x4C], .bit_b_r 1 .h), ([0xCB, 0x57], .bit_b_r 2 .a), ([0xCB, 0x5A], .bit_b_r 3 .d),
    ([0xCB, 0x5E], .bit_b_mHL 3), ([0xCB, 0x65], .bit_b_r 4 .l), ([0xCB, 0x68], .bit_b_r 5 .b),
    ([0xCB, 0x73], .bit_b_r 6 .e), ([0xCB, 0x7E], .bit_b_mHL 7)] = true := by decide

theorem test_decode_cb_res : decodesAll [
    ([0xCB, 0x81], .res_b_r 0 .c), ([0xCB, 0x86], .res_b_mHL 0), ([0xCB, 0x87], .res_b_r 0 .a),
    ([0xCB, 0x8C], .res_b_r 1 .h), ([0xCB, 0x97], .res_b_r 2 .a), ([0xCB, 0x9A], .res_b_r 3 .d),
    ([0xCB, 0x9E], .res_b_mHL 3), ([0xCB, 0xA5], .res_b_r 4 .l), ([0xCB, 0xA8], .res_b_r 5 .b),
    ([0xCB, 0xB3], .res_b_r 6 .e), ([0xCB, 0xBE], .res_b_mHL 7)] = true := by decide

theorem test_decode_cb_set : decodesAll [
    ([0xCB, 0xC1], .set_b_r 0 .c), ([0xCB, 0xC6], .set_b_mHL 0), ([0xCB, 0xC7], .set_b_r 0 .a),
    ([0xCB, 0xCC], .set_b_r 1 .h), ([0xCB, 0xD7], .set_b_r 2 .a), ([0xCB, 0xDA], .set_b_r 3 .d),
    ([0xCB, 0xDE], .set_b_mHL 3), ([0xCB, 0xE5], .set_b_r 4 .l), ([0xCB, 0xE8], .set_b_r 5 .b),
    ([0xCB, 0xF3], .set_b_r 6 .e), ([0xCB, 0xFE], .set_b_mHL 7)] = true := by decide

theorem test_decode_empty_rejected : decode [] = .error .empty := rfl

theorem test_decode_truncated_rejected : decode [0xCD, 0x50] = .error (.truncated 0xCD 3) := rfl

/-- The opcode table numbers a secondary row 0xCB first (log entry 15). -/
theorem test_table_word_swap : decodeTableWord 16 0xCB37 = some (.swap_r .a) := by decide

theorem test_table_word_nop : decodeTableWord 8 0x00 = some .nop := by decide

/-! ## One-step vectors of 95_test_vectors.md, part L2 -/

/-- Bytes placed from an address on. -/
def placed (s : State) (addr : Word) : List Byte → State
  | [] => s
  | v :: rest => placed { s with mem := Memory.write s.mem addr.toNat v } (addr + 1) rest

/-- The vectors' start state: preset P0 with `PC = 0x0200` and the bytes there (95_test_vectors.md, conventions). -/
def start (bytes : List Byte) (pc : Word := 0x0200) : State := placed { State.reset with pc := pc } pc bytes

/-- The writes on the bus, in order. -/
def writesDone (bus : List Access) : List (Word × Byte) :=
  bus.filterMap fun x => match x with
    | .write addr v => some (addr, v)
    | .read _ _ => none

/-- A step from `s` gives the core state of `t`, returns `r`, and writes `w`, in order, and nothing else. -/
def stepsTo (s t : State) (r : StepReturn) (w : List (Word × Byte)) : Bool :=
  match step s with
  | .next u =>
    decide (u = { t with mem := u.mem, bus := u.bus, extra := 0, ret := some r }) && writesDone u.bus == w &&
      u.mem == (w.foldl (fun m x => Memory.write m x.1.toNat x.2) s.mem)
  | _ => false

/-- V1, rule R103. -/
theorem test_V1 :
    let s := { start [0x80] with a := 0x3A, b := 0xC6 }
    stepsTo s { s with a := 0x00, f := 0xB0, pc := 0x0201, ticks := 4 } (.executed 4) [] = true := by decide

/-- V2, rule R103. -/
theorem test_V2 :
    let s := { start [0xC6, 0x01] with a := 0xFF }
    stepsTo s { s with a := 0x00, f := 0xB0, pc := 0x0202, ticks := 8 } (.executed 8) [] = true := by decide

/-- V3, rule R104. -/
theorem test_V3 :
    let s := { start [0xCE, 0x0F] with a := 0xE1, f := 0x10 }
    stepsTo s { s with a := 0xF1, f := 0x20, pc := 0x0202, ticks := 8 } (.executed 8) [] = true := by decide

/-- V4, rule R104. -/
theorem test_V4 :
    let s := { start [0xCE, 0x00] with a := 0x0F, f := 0x10 }
    stepsTo s { s with a := 0x10, f := 0x20, pc := 0x0202, ticks := 8 } (.executed 8) [] = true := by decide

/-- V5, rule R105. -/
theorem test_V5 :
    let s := { start [0xD6, 0x3E] with a := 0x3E }
    stepsTo s { s with a := 0x00, f := 0xC0, pc := 0x0202, ticks := 8 } (.executed 8) [] = true := by decide

/-- V6, rule R105. -/
theorem test_V6 :
    let s := { start [0xD6, 0x01] with a := 0x10 }
    stepsTo s { s with a := 0x0F, f := 0x60, pc := 0x0202, ticks := 8 } (.executed 8) [] = true := by decide

/-- V7, rule R106. -/
theorem test_V7 :
    let s := { start [0xDE, 0x00] with a := 0x00, f := 0x10 }
    stepsTo s { s with a := 0xFF, f := 0x70, pc := 0x0202, ticks := 8 } (.executed 8) [] = true := by decide

/-- V8, rule R106. -/
theorem test_V8 :
    let s := { start [0xDE, 0x2A] with a := 0x3B, f := 0x10 }
    stepsTo s { s with a := 0x10, f := 0x40, pc := 0x0202, ticks := 8 } (.executed 8) [] = true := by decide

/-- V9, rule R107. -/
theorem test_V9 :
    let s := { start [0xE6, 0xA5] with a := 0x5A, f := 0x50 }
    stepsTo s { s with a := 0x00, f := 0xA0, pc := 0x0202, ticks := 8 } (.executed 8) [] = true := by decide

/-- V10, rule R108. -/
theorem test_V10 :
    let s := { start [0xAF] with a := 0xFF }
    stepsTo s { s with a := 0x00, f := 0x80, pc := 0x0201, ticks := 4 } (.executed 4) [] = true := by decide

/-- V11, rule R109. -/
theorem test_V11 :
    let s := { start [0xF6, 0x00] with a := 0x00, f := 0x70 }
    stepsTo s { s with f := 0x80, pc := 0x0202, ticks := 8 } (.executed 8) [] = true := by decide

/-- V12, rule R110. -/
theorem test_V12 :
    let s := { start [0xFE, 0x40] with a := 0x3C }
    stepsTo s { s with f := 0x50, pc := 0x0202, ticks := 8 } (.executed 8) [] = true := by decide

/-- V13, rule R110. -/
theorem test_V13 :
    let s := { placed (start [0xBE]) 0xC000 [0x3C] with a := 0x3C, h := 0xC0, l := 0x00 }
    stepsTo s { s with f := 0xC0, pc := 0x0201, ticks := 8 } (.executed 8) [] = true := by decide

/-- V14, rule R111. -/
theorem test_V14 :
    let s := { start [0x3C] with a := 0xFF, f := 0x50 }
    stepsTo s { s with a := 0x00, f := 0xB0, pc := 0x0201, ticks := 4 } (.executed 4) [] = true := by decide

/-- V15, rule R111. -/
theorem test_V15 :
    let s := { placed (start [0x34]) 0xC010 [0x0F] with h := 0xC0, l := 0x10 }
    stepsTo s { s with f := 0x20, pc := 0x0201, ticks := 12 } (.executed 12) [(0xC010, 0x10)] = true := by decide

/-- V16, rule R112. -/
theorem test_V16 :
    let s := { start [0x05] with b := 0x01, f := 0x10 }
    stepsTo s { s with f := 0xD0, b := 0x00, pc := 0x0201, ticks := 4 } (.executed 4) [] = true := by decide

/-- V17, rule R112. -/
theorem test_V17 :
    let s := { start [0x05] with b := 0x10 }
    stepsTo s { s with f := 0x60, b := 0x0F, pc := 0x0201, ticks := 4 } (.executed 4) [] = true := by decide

/-- V18, rule R113. -/
theorem test_V18 :
    let s := { start [0x27] with a := 0x9A }
    stepsTo s { s with a := 0x00, f := 0x90, pc := 0x0201, ticks := 4 } (.executed 4) [] = true := by decide

/-- V19, rule R113. -/
theorem test_V19 :
    let s := { start [0x27] with a := 0x0F, f := 0x40 }
    stepsTo s { s with pc := 0x0201, ticks := 4 } (.executed 4) [] = true := by decide

/-- V20, rule R113. -/
theorem test_V20 :
    let s := { start [0x27] with a := 0x00, f := 0x70 }
    stepsTo s { s with a := 0x9A, f := 0x50, pc := 0x0201, ticks := 4 } (.executed 4) [] = true := by decide

/-- V21, rule R114. -/
theorem test_V21 :
    let s := { start [0x2F] with a := 0x35 }
    stepsTo s { s with a := 0xCA, f := 0x60, pc := 0x0201, ticks := 4 } (.executed 4) [] = true := by decide

/-- V22, rule R115. -/
theorem test_V22 :
    let s := { start [0x37] with f := 0xE0 }
    stepsTo s { s with f := 0x90, pc := 0x0201, ticks := 4 } (.executed 4) [] = true := by decide

/-- V23, rule R116. -/
theorem test_V23 :
    let s := { start [0x3F] with f := 0xF0 }
    stepsTo s { s with f := 0x80, pc := 0x0201, ticks := 4 } (.executed 4) [] = true := by decide

/-- V24, rule R131. -/
theorem test_V24 :
    let s := { start [0x09] with h := 0x8A, l := 0x23, b := 0x06, c := 0x05, f := 0xC0 }
    stepsTo s { s with f := 0xA0, h := 0x90, l := 0x28, pc := 0x0201, ticks := 8 } (.executed 8) [] = true := by decide

/-- V25, rule R131. -/
theorem test_V25 :
    let s := { start [0x19] with h := 0xFF, l := 0xFF, d := 0x00, e := 0x01 }
    stepsTo s { s with f := 0x30, h := 0x00, l := 0x00, pc := 0x0201, ticks := 8 } (.executed 8) [] = true := by decide

/-- V26, rule R131. -/
theorem test_V26 :
    let s := { start [0x39] with h := 0x12, l := 0x34, sp := 0xEDCC }
    stepsTo s { s with f := 0x30, h := 0x00, l := 0x00, pc := 0x0201, ticks := 8 } (.executed 8) [] = true := by decide

/-- V27, rule R132. -/
theorem test_V27 :
    let s := { start [0x03] with b := 0xFF, c := 0xFF, f := 0xA0 }
    stepsTo s { s with b := 0x00, c := 0x00, pc := 0x0201, ticks := 8 } (.executed 8) [] = true := by decide

/-- V28, rule R133. -/
theorem test_V28 :
    let s := { start [0x3B] with sp := 0x0000 }
    stepsTo s { s with sp := 0xFFFF, pc := 0x0201, ticks := 8 } (.executed 8) [] = true := by decide

/-- V29, rule R135. -/
theorem test_V29 :
    let s := { start [0xE8, 0x08] with sp := 0xFFF8, f := 0xC0 }
    stepsTo s { s with f := 0x30, sp := 0x0000, pc := 0x0202, ticks := 16 } (.executed 16) [] = true := by decide

/-- V30, rule R135. -/
theorem test_V30 :
    let s := { start [0xE8, 0xFF] with sp := 0x0001 }
    stepsTo s { s with f := 0x30, sp := 0x0000, pc := 0x0202, ticks := 16 } (.executed 16) [] = true := by decide

/-- V31, rule R136. -/
theorem test_V31 :
    let s := { start [0xF8, 0x02] with sp := 0xFFF8, f := 0xC0 }
    stepsTo s { s with f := 0x00, h := 0xFF, l := 0xFA, pc := 0x0202, ticks := 12 } (.executed 12) [] = true := by decide

/-- V32, rule R136. -/
theorem test_V32 :
    let s := { start [0xF8, 0xFE] with sp := 0x0000 }
    stepsTo s { s with h := 0xFF, l := 0xFE, pc := 0x0202, ticks := 12 } (.executed 12) [] = true := by decide

/-- V33, rule R142. -/
theorem test_V33 :
    let s := { start [0x07] with a := 0x85, f := 0xE0 }
    stepsTo s { s with a := 0x0B, f := 0x10, pc := 0x0201, ticks := 4 } (.executed 4) [] = true := by decide

/-- V34, rule R143. -/
theorem test_V34 :
    let s := { start [0x0F] with a := 0x01 }
    stepsTo s { s with a := 0x80, f := 0x10, pc := 0x0201, ticks := 4 } (.executed 4) [] = true := by decide

/-- V35, rule R144. -/
theorem test_V35 :
    let s := { start [0x17] with a := 0x80 }
    stepsTo s { s with a := 0x00, f := 0x10, pc := 0x0201, ticks := 4 } (.executed 4) [] = true := by decide

/-- V36, rule R145. -/
theorem test_V36 :
    let s := { start [0x1F] with a := 0x01, f := 0x10 }
    stepsTo s { s with a := 0x80, pc := 0x0201, ticks := 4 } (.executed 4) [] = true := by decide

/-- V37, rule R146. -/
theorem test_V37 :
    let s := { start [0xCB, 0x00] with b := 0x00, f := 0x70 }
    stepsTo s { s with f := 0x80, pc := 0x0202, ticks := 8 } (.executed 8) [] = true := by decide

/-- V38, rule R147. -/
theorem test_V38 :
    let s := { start [0xCB, 0x09] with c := 0x01 }
    stepsTo s { s with f := 0x10, c := 0x80, pc := 0x0202, ticks := 8 } (.executed 8) [] = true := by decide

/-- V39, rule R148. -/
theorem test_V39 :
    let s := { start [0xCB, 0x12] with d := 0x80 }
    stepsTo s { s with f := 0x90, d := 0x00, pc := 0x0202, ticks := 8 } (.executed 8) [] = true := by decide

/-- V40, rule R149. -/
theorem test_V40 :
    let s := { start [0xCB, 0x1B] with e := 0x01 }
    stepsTo s { s with f := 0x90, e := 0x00, pc := 0x0202, ticks := 8 } (.executed 8) [] = true := by decide

/-- V41, rule R150. -/
theorem test_V41 :
    let s := { placed (start [0xCB, 0x26]) 0xC000 [0x80] with h := 0xC0, l := 0x00 }
    stepsTo s { s with f := 0x90, pc := 0x0202, ticks := 16 } (.executed 16) [(0xC000, 0x00)] = true := by decide

/-- V42, rule R151. -/
theorem test_V42 :
    let s := { start [0xCB, 0x2F] with a := 0x81 }
    stepsTo s { s with a := 0xC0, f := 0x10, pc := 0x0202, ticks := 8 } (.executed 8) [] = true := by decide

/-- V43, rule R152. -/
theorem test_V43 :
    let s := { start [0xCB, 0x37] with a := 0xF0, f := 0x10 }
    stepsTo s { s with a := 0x0F, f := 0x00, pc := 0x0202, ticks := 8 } (.executed 8) [] = true := by decide

/-- V44, rule R152. -/
theorem test_V44 :
    let s := { start [0xCB, 0x37] with a := 0x00 }
    stepsTo s { s with f := 0x80, pc := 0x0202, ticks := 8 } (.executed 8) [] = true := by decide

/-- V45, rule R153. -/
theorem test_V45 :
    let s := { start [0xCB, 0x3F] with a := 0x01 }
    stepsTo s { s with a := 0x00, f := 0x90, pc := 0x0202, ticks := 8 } (.executed 8) [] = true := by decide

/-- V46, rule R161. -/
theorem test_V46 :
    let s := { start [0xCB, 0x7F] with a := 0x80, f := 0x50 }
    stepsTo s { s with f := 0x30, pc := 0x0202, ticks := 8 } (.executed 8) [] = true := by decide

/-- V47, rule R161. -/
theorem test_V47 :
    let s := { start [0xCB, 0x40] with b := 0xFE }
    stepsTo s { s with f := 0xA0, pc := 0x0202, ticks := 8 } (.executed 8) [] = true := by decide

/-- V48, rule R162. -/
theorem test_V48 :
    let s := { placed (start [0xCB, 0x46]) 0xC000 [0x01] with h := 0xC0, l := 0x00 }
    stepsTo s { s with f := 0x20, pc := 0x0202, ticks := 12 } (.executed 12) [] = true := by decide

/-- V49, rule R163. -/
theorem test_V49 :
    let s := { start [0xCB, 0x87] with a := 0xFF, f := 0xA0 }
    stepsTo s { s with a := 0xFE, pc := 0x0202, ticks := 8 } (.executed 8) [] = true := by decide

/-- V50, rule R164. -/
theorem test_V50 :
    let s := { placed (start [0xCB, 0xBE]) 0xC000 [0xFF] with h := 0xC0, l := 0x00 }
    stepsTo s { s with pc := 0x0202, ticks := 16 } (.executed 16) [(0xC000, 0x7F)] = true := by decide

/-- V51, rule R166. -/
theorem test_V51 :
    let s := { placed (start [0xCB, 0xC6]) 0xC000 [0x00] with h := 0xC0, l := 0x00 }
    stepsTo s { s with pc := 0x0202, ticks := 16 } (.executed 16) [(0xC000, 0x01)] = true := by decide

/-- V52, rule R172. -/
theorem test_V52 :
    let s := start [0xC3, 0x50, 0x01]
    stepsTo s { s with pc := 0x0150, ticks := 16 } (.executed 16) [] = true := by decide

/-- V53, rule R173. -/
theorem test_V53 :
    let s := { start [0xC2, 0x00, 0x30] with f := 0x80 }
    stepsTo s { s with pc := 0x0203, ticks := 12 } (.executed 12) [] = true := by decide

/-- V54, rule R173. -/
theorem test_V54 :
    let s := start [0xC2, 0x00, 0x30]
    stepsTo s { s with pc := 0x3000, ticks := 16 } (.executed 16) [] = true := by decide

/-- V55, rule R174. -/
theorem test_V55 :
    let s := { start [0xE9] with h := 0x12, l := 0x34 }
    stepsTo s { s with pc := 0x1234, ticks := 4 } (.executed 4) [] = true := by decide

/-- V56, rule R175. -/
theorem test_V56 :
    let s := start [0x18, 0xFE]
    stepsTo s { s with ticks := 12 } (.executed 12) [] = true := by decide

/-- V57, rule R175. -/
theorem test_V57 :
    let s := start [0x18, 0x80]
    stepsTo s { s with pc := 0x0182, ticks := 12 } (.executed 12) [] = true := by decide

/-- V58, rule R176. -/
theorem test_V58 :
    let s := { start [0x38, 0x05] with f := 0x10 }
    stepsTo s { s with pc := 0x0207, ticks := 12 } (.executed 12) [] = true := by decide

/-- V59, rule R176. -/
theorem test_V59 :
    let s := start [0x38, 0x05]
    stepsTo s { s with pc := 0x0202, ticks := 8 } (.executed 8) [] = true := by decide

/-- V60, rule R177. -/
theorem test_V60 :
    let s := { start [0xCD, 0x50, 0x01] with sp := 0xFFFE }
    stepsTo s { s with sp := 0xFFFC, pc := 0x0150, ticks := 24 } (.executed 24) [(0xFFFD, 0x02), (0xFFFC, 0x03)] = true := by decide

/-- V61, rule R178. -/
theorem test_V61 :
    let s := { start [0xDC, 0x50, 0x01] with sp := 0xFFFE }
    stepsTo s { s with pc := 0x0203, ticks := 12 } (.executed 12) [] = true := by decide

/-- V62, rule R179. -/
theorem test_V62 :
    let s := { placed (placed (start [0xC9]) 0xFFFC [0x03]) 0xFFFD [0x01] with sp := 0xFFFC }
    stepsTo s { s with sp := 0xFFFE, pc := 0x0103, ticks := 16 } (.executed 16) [] = true := by decide

/-- V63, rule R180. -/
theorem test_V63 :
    let s := { placed (placed (start [0xC8]) 0xFFFC [0x03]) 0xFFFD [0x01] with sp := 0xFFFC, f := 0x80 }
    stepsTo s { s with sp := 0xFFFE, pc := 0x0103, ticks := 20 } (.executed 20) [] = true := by decide

/-- V64, rule R180. -/
theorem test_V64 :
    let s := { placed (placed (start [0xC8]) 0xFFFC [0x03]) 0xFFFD [0x01] with sp := 0xFFFC }
    stepsTo s { s with pc := 0x0201, ticks := 8 } (.executed 8) [] = true := by decide

/-- V65, rule R181. -/
theorem test_V65 :
    let s := { placed (placed (start [0xD9]) 0xFFFC [0x03]) 0xFFFD [0x01] with sp := 0xFFFC }
    stepsTo s { s with sp := 0xFFFE, pc := 0x0103, ticks := 16, ime := true } (.executed 16) [] = true := by decide

/-- V66, rule R182. -/
theorem test_V66 :
    let s := { start [0xEF] with sp := 0xFFFE }
    stepsTo s { s with sp := 0xFFFC, pc := 0x0028, ticks := 16 } (.executed 16) [(0xFFFD, 0x02), (0xFFFC, 0x01)] = true := by decide

/-- V67, rule R177. -/
theorem test_V67 :
    let s := { start [0xCD, 0x00, 0x40] with sp := 0x0001 }
    stepsTo s { s with sp := 0xFFFF, pc := 0x4000, ticks := 24 } (.executed 24) [(0x0000, 0x02), (0xFFFF, 0x03)] = true := by decide

/-- V68, rule R191. -/
theorem test_V68 :
    let s := { start [0x50] with b := 0x12, d := 0x99 }
    stepsTo s { s with d := 0x12, pc := 0x0201, ticks := 4 } (.executed 4) [] = true := by decide

/-- V69, rule R193. -/
theorem test_V69 :
    let s := { placed (start [0x7E]) 0xC005 [0x77] with h := 0xC0, l := 0x05 }
    stepsTo s { s with a := 0x77, pc := 0x0201, ticks := 8 } (.executed 8) [] = true := by decide

/-- V70, rule R195. -/
theorem test_V70 :
    let s := { start [0x36, 0xA5] with h := 0xC0, l := 0x05 }
    stepsTo s { s with pc := 0x0202, ticks := 12 } (.executed 12) [(0xC005, 0xA5)] = true := by decide

/-- V71, rule R198. -/
theorem test_V71 :
    let s := { placed (start [0x2A]) 0xC0FF [0x11] with h := 0xC0, l := 0xFF }
    stepsTo s { s with a := 0x11, h := 0xC1, l := 0x00, pc := 0x0201, ticks := 8 } (.executed 8) [] = true := by decide

/-- V72, rule R201. -/
theorem test_V72 :
    let s := { start [0x32] with a := 0x22, h := 0x00, l := 0x00 }
    stepsTo s { s with h := 0xFF, l := 0xFF, pc := 0x0201, ticks := 8 } (.executed 8) [(0x0000, 0x22)] = true := by decide

/-- V73, rule R202. -/
theorem test_V73 :
    let s := placed (start [0xFA, 0x34, 0xC2]) 0xC234 [0x5B]
    stepsTo s { s with a := 0x5B, pc := 0x0203, ticks := 16 } (.executed 16) [] = true := by decide

/-- V74, rule R205. -/
theorem test_V74 :
    let s := { start [0xE0, 0x47] with a := 0x80 }
    stepsTo s { s with pc := 0x0202, ticks := 12 } (.executed 12) [(0xFF47, 0x80)] = true := by decide

/-- V75, rule R206. -/
theorem test_V75 :
    let s := { placed (start [0xF2]) 0xFF44 [0x90] with c := 0x44 }
    stepsTo s { s with a := 0x90, pc := 0x0201, ticks := 8 } (.executed 8) [] = true := by decide

/-- V76, rule R208. -/
theorem test_V76 :
    let s := start [0x31, 0xFE, 0xFF]
    stepsTo s { s with sp := 0xFFFE, pc := 0x0203, ticks := 12 } (.executed 12) [] = true := by decide

/-- V77, rule R209. -/
theorem test_V77 :
    let s := { start [0x08, 0xFF, 0xFF] with sp := 0xABCD }
    stepsTo s { s with pc := 0x0203, ticks := 20 } (.executed 20) [(0xFFFF, 0xCD), (0x0000, 0xAB)] = true := by decide

/-- V78, rule R210. -/
theorem test_V78 :
    let s := { start [0xF9] with h := 0xDF, l := 0xF0 }
    stepsTo s { s with sp := 0xDFF0, pc := 0x0201, ticks := 8 } (.executed 8) [] = true := by decide

/-- V79, rule R212. -/
theorem test_V79 :
    let s := { start [0xF5] with a := 0x12, f := 0xB0, sp := 0xD000 }
    stepsTo s { s with sp := 0xCFFE, pc := 0x0201, ticks := 16 } (.executed 16) [(0xCFFF, 0x12), (0xCFFE, 0xB0)] = true := by decide

/-- V80, rule R214. -/
theorem test_V80 :
    let s := { placed (placed (start [0xF1]) 0xD000 [0xFF]) 0xD001 [0x80] with sp := 0xD000 }
    stepsTo s { s with a := 0x80, f := 0xF0, sp := 0xD002, pc := 0x0201, ticks := 12 } (.executed 12) [] = true := by decide

/-- V81, rule R213. -/
theorem test_V81 :
    let s := { placed (placed (start [0xC1]) 0xFFFF [0x34]) 0x0000 [0x12] with sp := 0xFFFF }
    stepsTo s { s with b := 0x12, c := 0x34, sp := 0x0001, pc := 0x0201, ticks := 12 } (.executed 12) [] = true := by decide

/-- V82, rule R220. -/
theorem test_V82 :
    let s := { start [0x00] with f := 0xA0 }
    stepsTo s { s with pc := 0x0201, ticks := 4 } (.executed 4) [] = true := by decide

/-- V83, rule R221. -/
theorem test_V83 :
    let s := start [0x76]
    stepsTo s { s with pc := 0x0201, ticks := 4, run := .halted } (.executed 4) [] = true := by decide

/-- V84, rule R222. -/
theorem test_V84 :
    let s := start [0x10]
    stepsTo s { s with pc := 0x0201, ticks := 4, run := .stopped } (.executed 4) [] = true := by decide

/-- V85, rule R223. -/
theorem test_V85 :
    let s := { start [0xF3] with ime := true }
    stepsTo s { s with pc := 0x0201, ticks := 4, ime := false } (.executed 4) [] = true := by decide

/-- V86, rule R224. -/
theorem test_V86 :
    let s := start [0xFB]
    stepsTo s { s with pc := 0x0201, ticks := 4, ime := true } (.executed 4) [] = true := by decide

/-- V87, rule R227. -/
theorem test_V87 :
    let s := { start [0xDD] with a := 0x11 }
    stepsTo s { s with fault := some (.illegalOpcode 0x0200 [0xDD]), pc := 0x0201 } (.fault (.illegalOpcode 0x0200 [0xDD])) [] = true := by decide

/-- V88, rule R228. -/
theorem test_V88 :
    let s := { start [0xCB, 0x37] with a := 0x11, cfg := { Config.standard with cbImplemented := 0 } }
    stepsTo s { s with fault := some (.unimplementedOpcode 0x0200 [0xCB, 0x37]), pc := 0x0202 } (.fault (.unimplementedOpcode 0x0200 [0xCB, 0x37])) [] = true := by decide

/-! ## Vectors of several steps or with an outside move (L2.47), one move a test -/

/-- A move from `s` gives `t`, but for the access list, memory and the returned value, with the writes `w`. -/
def movesTo (s t : State) (w : List (Word × Byte)) : Bool :=
  match step s with
  | .next u => decide (u = { t with mem := u.mem, bus := u.bus, extra := 0, ret := u.ret }) && writesDone u.bus == w
  | _ => false

/-- The move is refused with this reason. -/
def refusedWith (s : State) (r : Refusal) : Bool :=
  match step s with
  | .refused q => decide (q = r)
  | _ => false

/-- The step answers this fault outcome. -/
def faultsWith (s : State) (r : Fault) : Bool :=
  match step s with
  | .fault q => decide (q = r)
  | _ => false

/-- V89, rule R91. -/
theorem test_V89 :
    let s := { start [] with sp := 0xD000, ime := true, run := .halted }
    stepsTo s { s with ticks := 4 } (.idle 4) [] = true := by decide

/-- V90, rule R251. -/
theorem test_V90 :
    let s := { start [] with sp := 0xD000, ime := true, run := .halted, ticks := 4, agenda := [.divert 0x0050] }
    movesTo s { s with sp := 0xCFFE, pc := 0x0050, ime := false, run := .running, agenda := [], acted := true }
      [(0xCFFF, 0x02), (0xCFFE, 0x00)] = true := by decide

/-- V91, rule R250. -/
theorem test_V91 :
    let s := { start [] with run := .stopped, agenda := [.resume] }
    movesTo s { s with run := .running, agenda := [], acted := true } [] = true := by decide

/-- V92, rule R252. -/
theorem test_V92 : refusedWith { start [] with run := .halted, agenda := [.divert 0x0040] } .divertWhileDisabled = true := by decide

/-- At most one action between two steps (R254): a `Divert` right after a `Resume` is refused. -/
theorem test_second_action :
    refusedWith { start [] with ime := true, acted := true, agenda := [.divert 0x0040] } .secondAction = true := by decide

/-- A step in between lets the collaborator act again (R254). -/
theorem test_step_clears_acted :
    let s := { start [0x00] with acted := true }
    stepsTo s { s with acted := false, pc := 0x0201, ticks := 4 } (.executed 4) [] = true := by decide

/-- A halted core with a `Divert` due, as in program P6, has not ended its run; with none before the next reset it has (R282). -/
theorem test_quiescent :
    ¬ { start [] with run := .halted, agenda := [.step, .divert 0x0040] }.Quiescent ∧
      { start [] with run := .halted, agenda := [.step, .reset InitState.presetP1, .resume] }.Quiescent := by decide

/-- V93, rule R244. -/
theorem test_V93 :
    faultsWith { start [0xDD] with pc := 0x0201, fault := some (.illegalOpcode 0x0200 [0xDD]) } (.illegalOpcode 0x0200 [0xDD]) = true := by
  decide

/-- V94, rules R92 and R225, first step. -/
theorem test_V94_first :
    let s := { start [0xFB, 0x00] with cfg := { Config.standard with eiDelay := true } }
    stepsTo s { s with pc := 0x0201, ticks := 4, imePending := true } (.executed 4) [] = true := by decide

/-- V94, second step. -/
theorem test_V94_second :
    let s := { start [0xFB, 0x00] with cfg := { Config.standard with eiDelay := true }, pc := 0x0201, ticks := 4, imePending := true }
    stepsTo s { s with pc := 0x0202, ticks := 8, ime := true, imePending := false } (.executed 4) [] = true := by decide

/-- V95, rules R223 and R225: `DI` cancels the pending enable. -/
theorem test_V95 :
    let s := { start [0xFB, 0xF3] with cfg := { Config.standard with eiDelay := true }, pc := 0x0201, ticks := 4, imePending := true }
    stepsTo s { s with pc := 0x0202, ticks := 8, imePending := false } (.executed 4) [] = true := by decide

/-- V96, rule R225. -/
theorem test_V96 :
    let s := { start [0xFB] with cfg := { Config.standard with eiDelay := true }, ime := true }
    stepsTo s { s with pc := 0x0201, ticks := 4 } (.executed 4) [] = true := by decide

/-- V97, rule R252. -/
theorem test_V97 :
    refusedWith { start [0xCB, 0x37] with
      pc := 0x0202, ime := true, fault := some (.unimplementedOpcode 0x0200 [0xCB, 0x37]), agenda := [.divert 0x0040] }
      .actionWhileFaulted = true := by decide

/-- V98, rules R90 and R226. -/
theorem test_V98 :
    let s := { start [0xCB, 0x37] with a := 0xF0, cfg := { Config.standard with cbPrefixCharged := true } }
    stepsTo s { s with a := 0x0F, f := 0x00, pc := 0x0202, ticks := 12 } (.executed 12) [] = true := by decide

/-- Preset P1 of R35 is admitted, and a set low nibble of `F` is not (R271). -/
theorem test_initState_admitted :
    InitState.presetP1.admitted = true ∧ { InitState.presetP1 with f := 0xB1 }.admitted = false := by decide

/-- STOP_LENGTH = 2: the byte after `STOP` is fetched and discarded (R222). -/
theorem test_stop_two_bytes :
    let s := { start [0x10, 0xD3] with cfg := { Config.standard with stopTwoBytes := true } }
    stepsTo s { s with pc := 0x0202, ticks := 4, run := .stopped } (.executed 4) [] = true := by decide

/-- The bytes of an instruction are read in order, and the data read comes after them (R56, D14). -/
theorem test_bus_order :
    (match step (placed (start [0xFA, 0x34, 0xC2]) 0xC234 [0x5B]) with
      | .next u => u.bus
      | _ => []) = [.read 0x0200 0xFA, .read 0x0201 0x34, .read 0x0202 0xC2, .read 0xC234 0x5B] := by decide

/-- An instruction across the top of the address space (R28, R55). -/
theorem test_fetch_wraps :
    let s := placed (start [] 0xFFFF) 0xFFFF [0xC3, 0x50, 0x01]
    stepsTo s { s with pc := 0x0150, ticks := 16 } (.executed 16) [] = true := by decide

/-! ## Witnesses: states and operands that meet the hypotheses of each statement that has any -/

/-- A state that meets the hypotheses of `Ready`. -/
theorem witness_ready : Ready (start [0xCB, 0x37]) := ⟨rfl, rfl, rfl⟩

theorem witness_DecimalAddLaw_register :
    let s := { State.reset with a := 0x99, e := 0x99 }
    let v := srcValue (.reg .e) s
    s.a.toNat / 16 ≤ 9 ∧ s.a.toNat % 16 ≤ 9 ∧ v.toNat / 16 ≤ 9 ∧ v.toNat % 16 ≤ 9 := by decide

theorem witness_DecimalAddLaw_memory :
    let s := { placed State.reset 0xC000 [0x90] with a := 0x09, h := 0xC0 }
    let v := srcValue .ind s
    v = 0x90 ∧ s.a.toNat / 16 ≤ 9 ∧ s.a.toNat % 16 ≤ 9 ∧ v.toNat / 16 ≤ 9 ∧ v.toNat % 16 ≤ 9 := by decide

theorem witness_EveryInstructionCompletes : exec .nop State.reset = .next State.reset ∧ canFault .nop = false := ⟨rfl, rfl⟩

theorem witness_StepRunsTheDecodedInstruction :
    Ready (start [0xCB, 0x37]) ∧ decode (bytesAtPc (start [0xCB, 0x37])) = .ok (.swap_r .a, [0x00]) := ⟨witness_ready, rfl⟩

theorem witness_StepRunsTheDecodedInstruction_charged :
    let s := { start [0xCB, 0x46] with cfg := { Config.standard with cbPrefixCharged := true } }
    Ready s ∧ decode (bytesAtPc s) = .ok (.bit_b_mHL 0, [0x00]) := ⟨⟨rfl, rfl, rfl⟩, rfl⟩

theorem witness_ReadyStepCompletes : Ready (start [0xFF]) ∧ Ready (start [0xD3]) := ⟨⟨rfl, rfl, rfl⟩, ⟨rfl, rfl, rfl⟩⟩

theorem witness_IdleStep_halted :
    let s := { start [] with run := .halted }
    s.agenda = [] ∧ s.fault = none ∧ s.run ≠ .running := by decide

theorem witness_IdleStep_stopped :
    let s := { start [] with run := .stopped }
    s.agenda = [] ∧ s.fault = none ∧ s.run ≠ .running := by decide

theorem witness_IdleStep_quiescent :
    let s := { start [] with run := .halted, agenda := [.memoryChange 0x0000 0xFF, .step] }
    s.Quiescent ∧ (∃ t, step s = .next t) ∧ ∀ init rest, s.agenda ≠ .reset init :: rest :=
  ⟨by decide, ⟨_, rfl⟩, fun _ _ h => by cases h⟩

theorem witness_LatchedFaultStep :
    let s := { start [0xFD] with fault := some (.illegalOpcode 0x01FF [0xDD]) }
    s.agenda = [] ∧ s.fault = some (.illegalOpcode 0x01FF [0xDD]) := ⟨rfl, rfl⟩

theorem witness_FaultingSteps_illegal :
    Ready (start [0xFD]) ∧ (start [0xFD]).peek (start [0xFD]).pc ∈ illegalSet := ⟨⟨rfl, rfl, rfl⟩, by decide⟩

theorem witness_FaultingSteps_unimplemented :
    let s := { start [0xCB, 0xFF] with cfg := { Config.standard with cbImplemented := BitVec.allOnes 256 >>> 1 } }
    Ready s ∧ s.peek s.pc = 0xCB ∧ s.cfg.implements (s.peek (s.pc + 1)) = false :=
  ⟨⟨rfl, rfl, rfl⟩, by decide, by decide⟩

theorem witness_ConditionalCosts_jr :
    Ready (start [0x20, 0x80]) ∧ decode (bytesAtPc (start [0x20, 0x80])) = .ok (.jrIf .nz 0x80, [0x00]) := ⟨⟨rfl, rfl, rfl⟩, rfl⟩

theorem witness_ConditionalCosts_jp :
    Ready (start [0xDA, 0x00, 0x30]) ∧ decode (bytesAtPc (start [0xDA, 0x00, 0x30])) = .ok (.jpIf .c 0x3000, []) :=
  ⟨⟨rfl, rfl, rfl⟩, rfl⟩

theorem witness_ConditionalCosts_call :
    Ready (start [0xD4, 0x50, 0x01]) ∧ decode (bytesAtPc (start [0xD4, 0x50, 0x01])) = .ok (.callIf .nc 0x0150, []) :=
  ⟨⟨rfl, rfl, rfl⟩, rfl⟩

theorem witness_ConditionalCosts_ret :
    Ready (start [0xC8]) ∧ decode (bytesAtPc (start [0xC8])) = .ok (.retIf .z, [0x00, 0x00]) := ⟨⟨rfl, rfl, rfl⟩, rfl⟩

theorem witness_ConditionalCosts_other :
    Instr.wf .halt = true ∧ ¬ isConditional .halt ∧ exec .halt State.reset = .next { State.reset with run := .halted } := by
  refine ⟨rfl, ?_, rfl⟩
  rintro ⟨cc, ⟨v, h⟩ | ⟨v, h⟩ | ⟨v, h⟩ | h⟩ <;> cases cc <;> cases h

theorem witness_DelayedEnable_ei :
    let s := { start [0xFB] with cfg := { Config.standard with eiDelay := true } }
    Ready s ∧ s.peek s.pc = 0xFB ∧ s.cfg.eiDelay = true ∧ s.imePending = false :=
  ⟨⟨rfl, rfl, rfl⟩, by decide, rfl, rfl⟩

theorem witness_DelayedEnable_fault :
    let s := { start [0xD3] with cfg := { Config.standard with eiDelay := true }, imePending := true }
    s.agenda = [] ∧ s.fault = none ∧ ∃ t, step s = .next t ∧ t.fault ≠ none := ⟨rfl, rfl, _, rfl, by decide⟩

theorem witness_DelayedEnable_idle :
    let s := { start [] with run := .halted, cfg := { Config.standard with eiDelay := true }, imePending := true }
    s.agenda = [] ∧ s.fault = none ∧ s.run ≠ .running ∧ ∃ t, step s = .next t := ⟨rfl, rfl, by decide, _, rfl⟩

theorem witness_DelayedEnable_other :
    let s := { start [0x76] with ime := true }
    Ready s ∧ s.cfg.eiDelay = false ∧ s.peek s.pc ≠ 0xF3 ∧ s.peek s.pc ≠ 0xFB ∧ s.peek s.pc ≠ 0xD9 ∧ ∃ t, step s = .next t :=
  ⟨⟨rfl, rfl, rfl⟩, rfl, by decide, by decide, by decide, _, rfl⟩

theorem witness_DelayedEnable_next :
    let s := { start [0x00] with cfg := { Config.standard with eiDelay := true }, imePending := true }
    Ready s ∧ s.cfg.eiDelay = true ∧ s.imePending = true ∧ ∃ t, step s = .next t ∧ t.fault = none :=
  ⟨⟨rfl, rfl, rfl⟩, rfl, rfl, _, rfl, rfl⟩

theorem witness_DelayedEnable_di :
    let s := { start [0xF3] with cfg := { Config.standard with eiDelay := true }, imePending := true }
    Ready s ∧ s.cfg.eiDelay = true ∧ s.imePending = true ∧ ∃ t, step s = .next t ∧ t.fault = none :=
  ⟨⟨rfl, rfl, rfl⟩, rfl, rfl, _, rfl, rfl⟩

theorem witness_DelayedEnable_immediate :
    Ready (start [0xFB]) ∧ (start [0xFB]).peek (start [0xFB]).pc = 0xFB ∧ (start [0xFB]).cfg.eiDelay = false :=
  ⟨⟨rfl, rfl, rfl⟩, by decide, rfl⟩

theorem witness_ThreeWayVerdict : verdict Config.standard 0xCB 0xFF 0x00 = .implemented (.set_b_r 7 .a) := by decide

theorem witness_ThreeWayVerdict_step : Ready (start [0x00]) ∧ ∃ t, step (start [0x00]) = .next t := ⟨⟨rfl, rfl, rfl⟩, _, rfl⟩

theorem witness_DecodeOfEncode : Instr.wf (.call_C_a16 0xFFFF) = true := rfl

theorem witness_EncodeOfDecode : decode [0xFA, 0xFF, 0xFF, 0x12] = .ok (.ld_A_ma16 0xFFFF, [0x12]) := rfl

theorem witness_EncodeOfDecode_length : instrLength 0xCB ≤ [0xFF].length + 1 ∧ instrLength 0xC3 ≤ [0x00, 0x01].length + 1 := by decide

theorem witness_ResumeAndDivertMoves_resume :
    let s := { start [] with run := .stopped, agenda := [.resume, .step] }
    s.agenda = .resume :: [.step] ∧ s.fault = none ∧ s.acted = false ∧ s.run ≠ .running := by decide

theorem witness_ResumeAndDivertMoves_divert :
    let s := { start [] with run := .halted, ime := true, sp := 0x0001, agenda := [.divert 0xFFFF] }
    s.agenda = .divert 0xFFFF :: [] ∧ s.fault = none ∧ s.acted = false ∧ s.ime = true := by decide

theorem witness_OtherMoves_disabled :
    let s := { start [] with agenda := [.divert 0x0040] }
    s.agenda = .divert 0x0040 :: [] ∧ s.fault = none ∧ s.ime = false := by decide

theorem witness_OtherMoves_faulted :
    let s := { start [] with fault := some (.illegalOpcode 0x01FF [0xDD]), ime := true, agenda := [.divert 0x0040] }
    s.fault ≠ none ∧ s.agenda = .divert 0x0040 :: [] ∧ { s with agenda := [.resume] }.agenda = .resume :: [] := by decide

theorem witness_OtherMoves_second :
    let s := { start [] with ime := true, acted := true, agenda := [.divert 0x0040] }
    s.fault = none ∧ s.acted = true ∧ s.agenda = .divert 0x0040 :: [] ∧ s.ime = true ∧
      { s with agenda := [.resume] }.agenda = .resume :: [] := by decide

theorem witness_OtherMoves_running :
    let s := { start [] with agenda := [.resume] }
    s.agenda = .resume :: [] ∧ s.fault = none ∧ s.acted = false ∧ s.run = .running := by decide

theorem witness_OtherMoves_memory :
    let s := { start [] with fault := some (.illegalOpcode 0x01FF [0xDD]), agenda := [.memoryChange 0xFFFF 0x00] }
    s.agenda = .memoryChange 0xFFFF 0x00 :: [] := rfl

theorem witness_ExternalReset_admitted :
    let s := { start [0xDD] with fault := some (.illegalOpcode 0x01FF [0xDD]), agenda := [.reset InitState.presetP1] }
    s.agenda = .reset InitState.presetP1 :: [] ∧ InitState.presetP1.f &&& 0x0F = 0 := by decide

theorem witness_ExternalReset_refused :
    let n := { InitState.presetP1 with f := 0x01 }
    let s := { start [] with agenda := [.reset n] }
    s.agenda = .reset n :: [] ∧ n.f &&& 0x0F ≠ 0 := by decide

theorem witness_DivertThenReti :
    let s := { start [0xD9] with ime := true, sp := 0x0001 }
    s.MemoryCanonical ∧ s.fault = none ∧ s.acted = false ∧ s.ime = true := by decide

theorem witness_FlagLowNibbleStaysZero :
    let s := { start [0xF1] with sp := 0x0200 }
    s.FlagLowNibbleZero ∧ ∃ t, step s = .next t := ⟨by decide, _, rfl⟩

theorem witness_MemoryStaysCanonical :
    let s := { start [0x77] with h := 0x02 }
    s.MemoryCanonical ∧ ∃ t, step s = .next t := ⟨by decide, _, rfl⟩

theorem witness_PendingEnableStaysSound :
    let s := { start [0x00] with imePending := true, cfg := { Config.standard with eiDelay := true } }
    s.PendingSound ∧ ∃ t, step s = .next t := ⟨fun _ => ⟨rfl, rfl⟩, _, rfl⟩

theorem witness_FaultLatchStaysSound :
    let s := start [0xD3]
    s.LatchSound ∧ ∃ t, step s = .next t ∧ t.fault = some (.illegalOpcode 0x0200 [0xD3]) := ⟨trivial, _, rfl, rfl⟩

theorem witness_ParametersNeverChange : ∃ t, step { start [0x00] with agenda := [.step, .resume] } = .next t := ⟨_, rfl⟩

theorem witness_FlagFrame :
    Instr.wf .pop_AF = true ∧ State.reset.fault = none ∧ ∃ t, exec .pop_AF State.reset = .next t ∧ t.fault = none :=
  ⟨rfl, rfl, _, rfl, rfl⟩

theorem witness_FlagFrame_fault :
    Instr.wf .illegal_D3 = true ∧ State.reset.fault = none ∧ ∃ t, exec .illegal_D3 State.reset = .next t ∧ t.fault ≠ none :=
  ⟨rfl, rfl, _, rfl, by decide⟩

theorem witness_RegisterFrame :
    Instr.wf (.ld_HL_SPe8 0x80) = true ∧ (∃ t, exec (.ld_HL_SPe8 0x80) State.reset = .next t) ∧
      Reg8.a ∉ destRegs (.ld_HL_SPe8 0x80) ∧ writesSp (.ld_HL_SPe8 0x80) = false := ⟨rfl, ⟨_, rfl⟩, by decide, rfl⟩

theorem witness_MemoryFrame :
    Instr.wf (.ld_ma16_SP 0xFFFF) = true ∧ (∃ t, exec (.ld_ma16_SP 0xFFFF) State.reset = .next t) ∧
      (0x0001 : Word) ∉ storeAddrs (.ld_ma16_SP 0xFFFF) State.reset := ⟨rfl, ⟨_, rfl⟩, by decide⟩

theorem witness_ControlFrame :
    Instr.wf .nop = true ∧ exec .nop State.reset = .next State.reset ∧ canFault .nop = false ∧
      Instr.nop ≠ .halt ∧ Instr.nop ≠ .stop ∧ Instr.nop ≠ .di ∧ Instr.nop ≠ .ei ∧ Instr.nop ≠ .reti :=
  ⟨rfl, rfl, rfl, by decide, by decide, by decide, by decide, by decide⟩

theorem witness_ControlFrame_halt :
    Instr.wf .halt = true ∧ (∃ t, exec .halt State.reset = .next t) ∧ Instr.wf .reti = true ∧ ∃ t, exec .reti State.reset = .next t :=
  ⟨rfl, ⟨_, rfl⟩, rfl, _, rfl⟩

theorem witness_TicksAreNotRead : (start [0x20, 0xFE]).agenda = [] := rfl

theorem witness_StackRoundTrip :
    let s := { start [] with f := 0xB0, sp := 0x0001 }
    s.MemoryCanonical ∧ (StackReg.af = .af → s.FlagLowNibbleZero) := by decide

end Sys2Proof.Tests
end

section
/-! The rows of the opcode table by rule. `Instr.Row` says that every instruction is one of the syntax's builders on its
operand fields, or one of the rows that stand alone; the `exec_…` equations say what each of them does. A proof about
every instruction is `cases i.row`, with one case a rule. The decoder answers every row but the escape. -/

namespace Sys2Proof

/-- The rows, by rule: a builder on its operand fields (R74 to R80), or a row that stands alone. -/
inductive Instr.Row : Instr → Prop where
  -- System (R220 to R227)
  | nop : Row .nop | halt : Row .halt | stop : Row .stop | di : Row .di | ei : Row .ei
  | illegal (k : Fin 11) : Row (.illegal k) | prefix_CB : Row .prefix_CB
  -- 8-bit arithmetic and logic (R100 to R117)
  | alu (op : AluOp) (x : Src8) : Row (.alu op x) | inc8 (t : Target8) : Row (.inc8 t) | dec8 (t : Target8) : Row (.dec8 t)
  | daa : Row .daa | cpl : Row .cpl | scf : Row .scf | ccf : Row .ccf
  -- 16-bit arithmetic (R130 to R137)
  | inc16 (p : Reg16) : Row (.inc16 p) | dec16 (p : Reg16) : Row (.dec16 p) | addHl (p : Reg16) : Row (.addHl p)
  | add_SP_e8 (e8 : Byte) : Row (.add_SP_e8 e8) | ld_HL_SPe8 (e8 : Byte) : Row (.ld_HL_SPe8 e8)
  -- Rotates, shifts and bits (R140 to R166)
  | rlca : Row .rlca | rrca : Row .rrca | rla : Row .rla | rra : Row .rra
  | rot (kind : RotKind) (t : Target8) : Row (.rot kind t) | bit (b : BitVec 3) (t : Target8) : Row (.bit b t)
  | res (b : BitVec 3) (t : Target8) : Row (.res b t) | set (b : BitVec 3) (t : Target8) : Row (.set b t)
  -- Control transfers (R170 to R184)
  | jr_e8 (e8 : Byte) : Row (.jr_e8 e8) | jrIf (cc : Cond) (e8 : Byte) : Row (.jrIf cc e8)
  | jp_a16 (a16 : Word) : Row (.jp_a16 a16) | jpIf (cc : Cond) (a16 : Word) : Row (.jpIf cc a16) | jp_HL : Row .jp_HL
  | call_a16 (a16 : Word) : Row (.call_a16 a16) | callIf (cc : Cond) (a16 : Word) : Row (.callIf cc a16)
  | ret : Row .ret | retIf (cc : Cond) : Row (.retIf cc) | reti : Row .reti | rst (y : Fin 8) : Row (.rst y)
  -- Loads, stores and stack moves (R190 to R214)
  | ldReg (dst src : Reg8) : Row (.ldReg dst src) | ldImm (dst : Reg8) (d8 : Byte) : Row (.ldImm dst d8)
  | ldLoad (dst : Reg8) : Row (.ldLoad dst) | ldStore (src : Reg8) : Row (.ldStore src)
  | ld_mHL_d8 (d8 : Byte) : Row (.ld_mHL_d8 d8)
  | ld_A_mBC : Row .ld_A_mBC | ld_A_mDE : Row .ld_A_mDE | ldh_A_ma8 (a8 : Byte) : Row (.ldh_A_ma8 a8)
  | ld_A_mC : Row .ld_A_mC | ld_A_ma16 (a16 : Word) : Row (.ld_A_ma16 a16)
  | ld_mBC_A : Row .ld_mBC_A | ld_mDE_A : Row .ld_mDE_A | ldh_ma8_A (a8 : Byte) : Row (.ldh_ma8_A a8)
  | ld_mC_A : Row .ld_mC_A | ld_ma16_A (a16 : Word) : Row (.ld_ma16_A a16)
  | ld_A_mHLi : Row .ld_A_mHLi | ld_A_mHLd : Row .ld_A_mHLd | ld_mHLi_A : Row .ld_mHLi_A | ld_mHLd_A : Row .ld_mHLd_A
  | ldImm16 (p : Reg16) (d16 : Word) : Row (.ldImm16 p d16) | ld_SP_HL : Row .ld_SP_HL
  | ld_ma16_SP (a16 : Word) : Row (.ld_ma16_SP a16) | push (q : StackReg) : Row (.push q) | pop (q : StackReg) : Row (.pop q)

/-- Every instruction is a row of one of the rules. -/
theorem Instr.row (i : Instr) : i.Row :=
  match i with
  | .nop => .nop | .halt => .halt | .stop => .stop | .di => .di | .ei => .ei
  | .illegal_D3 => .illegal 0 | .illegal_DB => .illegal 1 | .illegal_DD => .illegal 2 | .illegal_E3 => .illegal 3
  | .illegal_E4 => .illegal 4 | .illegal_EB => .illegal 5 | .illegal_EC => .illegal 6 | .illegal_ED => .illegal 7
  | .illegal_F4 => .illegal 8 | .illegal_FC => .illegal 9 | .illegal_FD => .illegal 10
  | .prefix_CB => .prefix_CB
  | .add_A_d8 v => .alu .add (.imm v) | .adc_A_d8 v => .alu .adc (.imm v) | .sub_d8 v => .alu .sub (.imm v)
  | .sbc_A_d8 v => .alu .sbc (.imm v) | .and_d8 v => .alu .and (.imm v) | .xor_d8 v => .alu .xor (.imm v)
  | .or_d8 v => .alu .or (.imm v) | .cp_d8 v => .alu .cp (.imm v) | .add_A_B => .alu .add (.reg .b)
  | .add_A_C => .alu .add (.reg .c) | .add_A_D => .alu .add (.reg .d) | .add_A_E => .alu .add (.reg .e)
  | .add_A_H => .alu .add (.reg .h) | .add_A_L => .alu .add (.reg .l) | .add_A_mHL => .alu .add .ind
  | .add_A_A => .alu .add (.reg .a) | .adc_A_B => .alu .adc (.reg .b) | .adc_A_C => .alu .adc (.reg .c)
  | .adc_A_D => .alu .adc (.reg .d) | .adc_A_E => .alu .adc (.reg .e) | .adc_A_H => .alu .adc (.reg .h)
  | .adc_A_L => .alu .adc (.reg .l) | .adc_A_mHL => .alu .adc .ind | .adc_A_A => .alu .adc (.reg .a)
  | .sub_B => .alu .sub (.reg .b) | .sub_C => .alu .sub (.reg .c) | .sub_D => .alu .sub (.reg .d)
  | .sub_E => .alu .sub (.reg .e) | .sub_H => .alu .sub (.reg .h) | .sub_L => .alu .sub (.reg .l)
  | .sub_mHL => .alu .sub .ind | .sub_A => .alu .sub (.reg .a) | .sbc_A_B => .alu .sbc (.reg .b)
  | .sbc_A_C => .alu .sbc (.reg .c) | .sbc_A_D => .alu .sbc (.reg .d) | .sbc_A_E => .alu .sbc (.reg .e)
  | .sbc_A_H => .alu .sbc (.reg .h) | .sbc_A_L => .alu .sbc (.reg .l) | .sbc_A_mHL => .alu .sbc .ind
  | .sbc_A_A => .alu .sbc (.reg .a) | .and_B => .alu .and (.reg .b) | .and_C => .alu .and (.reg .c)
  | .and_D => .alu .and (.reg .d) | .and_E => .alu .and (.reg .e) | .and_H => .alu .and (.reg .h)
  | .and_L => .alu .and (.reg .l) | .and_mHL => .alu .and .ind | .and_A => .alu .and (.reg .a)
  | .xor_B => .alu .xor (.reg .b) | .xor_C => .alu .xor (.reg .c) | .xor_D => .alu .xor (.reg .d)
  | .xor_E => .alu .xor (.reg .e) | .xor_H => .alu .xor (.reg .h) | .xor_L => .alu .xor (.reg .l)
  | .xor_mHL => .alu .xor .ind | .xor_A => .alu .xor (.reg .a) | .or_B => .alu .or (.reg .b)
  | .or_C => .alu .or (.reg .c) | .or_D => .alu .or (.reg .d) | .or_E => .alu .or (.reg .e)
  | .or_H => .alu .or (.reg .h) | .or_L => .alu .or (.reg .l) | .or_mHL => .alu .or .ind | .or_A => .alu .or (.reg .a)
  | .cp_B => .alu .cp (.reg .b) | .cp_C => .alu .cp (.reg .c) | .cp_D => .alu .cp (.reg .d)
  | .cp_E => .alu .cp (.reg .e) | .cp_H => .alu .cp (.reg .h) | .cp_L => .alu .cp (.reg .l) | .cp_mHL => .alu .cp .ind
  | .cp_A => .alu .cp (.reg .a)
  | .inc_B => .inc8 (.reg .b) | .inc_C => .inc8 (.reg .c) | .inc_D => .inc8 (.reg .d) | .inc_E => .inc8 (.reg .e)
  | .inc_H => .inc8 (.reg .h) | .inc_L => .inc8 (.reg .l) | .inc_mHL => .inc8 .ind | .inc_A => .inc8 (.reg .a)
  | .dec_B => .dec8 (.reg .b) | .dec_C => .dec8 (.reg .c) | .dec_D => .dec8 (.reg .d) | .dec_E => .dec8 (.reg .e)
  | .dec_H => .dec8 (.reg .h) | .dec_L => .dec8 (.reg .l) | .dec_mHL => .dec8 .ind | .dec_A => .dec8 (.reg .a)
  | .daa => .daa | .cpl => .cpl | .scf => .scf | .ccf => .ccf
  | .inc_BC => .inc16 .bc | .inc_DE => .inc16 .de | .inc_HL => .inc16 .hl | .inc_SP => .inc16 .sp
  | .dec_BC => .dec16 .bc | .dec_DE => .dec16 .de | .dec_HL => .dec16 .hl | .dec_SP => .dec16 .sp
  | .add_HL_BC => .addHl .bc | .add_HL_DE => .addHl .de | .add_HL_HL => .addHl .hl | .add_HL_SP => .addHl .sp
  | .add_SP_e8 e8 => .add_SP_e8 e8 | .ld_HL_SPe8 e8 => .ld_HL_SPe8 e8 | .rlca => .rlca | .rrca => .rrca | .rla => .rla
  | .rra => .rra
  | .rlc_r r => .rot .rlc (.reg r) | .rlc_mHL => .rot .rlc .ind | .rrc_r r => .rot .rrc (.reg r)
  | .rrc_mHL => .rot .rrc .ind | .rl_r r => .rot .rl (.reg r) | .rl_mHL => .rot .rl .ind
  | .rr_r r => .rot .rr (.reg r) | .rr_mHL => .rot .rr .ind | .sla_r r => .rot .sla (.reg r)
  | .sla_mHL => .rot .sla .ind | .sra_r r => .rot .sra (.reg r) | .sra_mHL => .rot .sra .ind
  | .swap_r r => .rot .swap (.reg r) | .swap_mHL => .rot .swap .ind | .srl_r r => .rot .srl (.reg r)
  | .srl_mHL => .rot .srl .ind
  | .bit_b_r b r => .bit b (.reg r) | .bit_b_mHL b => .bit b .ind
  | .res_b_r b r => .res b (.reg r) | .res_b_mHL b => .res b .ind
  | .set_b_r b r => .set b (.reg r) | .set_b_mHL b => .set b .ind
  | .jr_e8 e8 => .jr_e8 e8
  | .jr_NZ_e8 v => .jrIf .nz v | .jr_Z_e8 v => .jrIf .z v | .jr_NC_e8 v => .jrIf .nc v | .jr_C_e8 v => .jrIf .c v
  | .jp_a16 a16 => .jp_a16 a16
  | .jp_NZ_a16 v => .jpIf .nz v | .jp_Z_a16 v => .jpIf .z v | .jp_NC_a16 v => .jpIf .nc v | .jp_C_a16 v => .jpIf .c v
  | .jp_HL => .jp_HL | .call_a16 a16 => .call_a16 a16
  | .call_NZ_a16 v => .callIf .nz v | .call_Z_a16 v => .callIf .z v | .call_NC_a16 v => .callIf .nc v
  | .call_C_a16 v => .callIf .c v
  | .ret => .ret
  | .ret_NZ => .retIf .nz | .ret_Z => .retIf .z | .ret_NC => .retIf .nc | .ret_C => .retIf .c
  | .reti => .reti
  | .rst_00 => .rst 0 | .rst_08 => .rst 1 | .rst_10 => .rst 2 | .rst_18 => .rst 3 | .rst_20 => .rst 4
  | .rst_28 => .rst 5 | .rst_30 => .rst 6 | .rst_38 => .rst 7
  | .ld_B_B => .ldReg .b .b | .ld_B_C => .ldReg .b .c | .ld_B_D => .ldReg .b .d | .ld_B_E => .ldReg .b .e
  | .ld_B_H => .ldReg .b .h | .ld_B_L => .ldReg .b .l | .ld_B_A => .ldReg .b .a | .ld_C_B => .ldReg .c .b
  | .ld_C_C => .ldReg .c .c | .ld_C_D => .ldReg .c .d | .ld_C_E => .ldReg .c .e | .ld_C_H => .ldReg .c .h
  | .ld_C_L => .ldReg .c .l | .ld_C_A => .ldReg .c .a | .ld_D_B => .ldReg .d .b | .ld_D_C => .ldReg .d .c
  | .ld_D_D => .ldReg .d .d | .ld_D_E => .ldReg .d .e | .ld_D_H => .ldReg .d .h | .ld_D_L => .ldReg .d .l
  | .ld_D_A => .ldReg .d .a | .ld_E_B => .ldReg .e .b | .ld_E_C => .ldReg .e .c | .ld_E_D => .ldReg .e .d
  | .ld_E_E => .ldReg .e .e | .ld_E_H => .ldReg .e .h | .ld_E_L => .ldReg .e .l | .ld_E_A => .ldReg .e .a
  | .ld_H_B => .ldReg .h .b | .ld_H_C => .ldReg .h .c | .ld_H_D => .ldReg .h .d | .ld_H_E => .ldReg .h .e
  | .ld_H_H => .ldReg .h .h | .ld_H_L => .ldReg .h .l | .ld_H_A => .ldReg .h .a | .ld_L_B => .ldReg .l .b
  | .ld_L_C => .ldReg .l .c | .ld_L_D => .ldReg .l .d | .ld_L_E => .ldReg .l .e | .ld_L_H => .ldReg .l .h
  | .ld_L_L => .ldReg .l .l | .ld_L_A => .ldReg .l .a | .ld_A_B => .ldReg .a .b | .ld_A_C => .ldReg .a .c
  | .ld_A_D => .ldReg .a .d | .ld_A_E => .ldReg .a .e | .ld_A_H => .ldReg .a .h | .ld_A_L => .ldReg .a .l
  | .ld_A_A => .ldReg .a .a
  | .ld_B_d8 v => .ldImm .b v | .ld_C_d8 v => .ldImm .c v | .ld_D_d8 v => .ldImm .d v | .ld_E_d8 v => .ldImm .e v
  | .ld_H_d8 v => .ldImm .h v | .ld_L_d8 v => .ldImm .l v | .ld_A_d8 v => .ldImm .a v
  | .ld_B_mHL => .ldLoad .b | .ld_C_mHL => .ldLoad .c | .ld_D_mHL => .ldLoad .d | .ld_E_mHL => .ldLoad .e
  | .ld_H_mHL => .ldLoad .h | .ld_L_mHL => .ldLoad .l | .ld_A_mHL => .ldLoad .a
  | .ld_mHL_B => .ldStore .b | .ld_mHL_C => .ldStore .c | .ld_mHL_D => .ldStore .d | .ld_mHL_E => .ldStore .e
  | .ld_mHL_H => .ldStore .h | .ld_mHL_L => .ldStore .l | .ld_mHL_A => .ldStore .a
  | .ld_mHL_d8 d8 => .ld_mHL_d8 d8 | .ld_A_mBC => .ld_A_mBC | .ld_A_mDE => .ld_A_mDE | .ldh_A_ma8 a8 => .ldh_A_ma8 a8
  | .ld_A_mC => .ld_A_mC | .ld_A_ma16 a16 => .ld_A_ma16 a16 | .ld_mBC_A => .ld_mBC_A | .ld_mDE_A => .ld_mDE_A
  | .ldh_ma8_A a8 => .ldh_ma8_A a8 | .ld_mC_A => .ld_mC_A | .ld_ma16_A a16 => .ld_ma16_A a16
  | .ld_A_mHLi => .ld_A_mHLi | .ld_A_mHLd => .ld_A_mHLd | .ld_mHLi_A => .ld_mHLi_A | .ld_mHLd_A => .ld_mHLd_A
  | .ld_BC_d16 v => .ldImm16 .bc v | .ld_DE_d16 v => .ldImm16 .de v | .ld_HL_d16 v => .ldImm16 .hl v
  | .ld_SP_d16 v => .ldImm16 .sp v
  | .ld_SP_HL => .ld_SP_HL | .ld_ma16_SP a16 => .ld_ma16_SP a16
  | .push_BC => .push .bc | .push_DE => .push .de | .push_HL => .push .hl | .push_AF => .push .af
  | .pop_BC => .pop .bc | .pop_DE => .pop .de | .pop_HL => .pop .hl | .pop_AF => .pop .af

/-- Only the escape is no instruction of its own (R226), and the decoder never answers it (R87): every entry of the
secondary table is an instruction. -/
theorem secondaryTable_wf (op2 : Byte) : (secondaryTable op2).wf = true := by
  revert op2; decide

theorem apply_pick4 {α β : Type} (g : α → β) (k : BitVec 2) (a0 a1 a2 a3 : α) :
    g (pick4 k a0 a1 a2 a3) = pick4 k (g a0) (g a1) (g a2) (g a3) := by
  unfold pick4; split <;> rfl

theorem apply_pick8 {α β : Type} (g : α → β) (k : BitVec 3) (a0 a1 a2 a3 a4 a5 a6 a7 : α) :
    g (pick8 k a0 a1 a2 a3 a4 a5 a6 a7) = pick8 k (g a0) (g a1) (g a2) (g a3) (g a4) (g a5) (g a6) (g a7) := by
  unfold pick8; split <;> rfl

/-- Whether an entry of the primary table is an instruction does not depend on its operand bytes. -/
theorem primaryTable_wf_operands (b1 b2 b3 : Byte) : (primaryTable b1 b2 b3).wf = (primaryTable b1 0 0).wf := by
  simp only [primaryTable, quadrant0, quadrant3, apply_pick4 Instr.wf, apply_pick8 Instr.wf]
  rfl

/-- What the decoder answers is a whole instruction (R87). -/
theorem decodeBytes_wf (b1 b2 b3 : Byte) : (decodeBytes b1 b2 b3).wf = true := by
  have hprimary : ∀ b : Byte, b ≠ 0xCB → (primaryTable b 0 0).wf = true := by decide
  unfold decodeBytes
  split
  · exact secondaryTable_wf b2
  · next h => rw [primaryTable_wf_operands, hprimary b1 h]

end Sys2Proof

namespace Sys2Proof.Machine

open Sys2Proof.Claims

/-! What each rule's rows do, through the shared operations alone. -/

@[simp] theorem exec_nop (s : State) : exec .nop s = .next s := rfl

@[simp] theorem exec_halt (s : State) : exec .halt s = .next { s with run := .halted } := rfl

@[simp] theorem exec_stop (s : State) :
    exec .stop s = .next (if s.cfg.stopTwoBytes then { s.fetchByte.2 with run := .stopped }
      else { s with run := .stopped }) := by
  show stop s = _
  unfold stop
  split <;> rfl

@[simp] theorem exec_di (s : State) : exec .di s = .next { s with ime := false, imePending := false } := rfl

@[simp] theorem exec_ei (s : State) :
    exec .ei s = .next (if s.cfg.eiDelay then (if s.ime then s else { s with imePending := true })
      else { s with ime := true }) := rfl

@[simp] theorem exec_illegal (k : Fin 11) (s : State) :
    exec (.illegal k) s = .next (s.latchIllegal (illegalSet.get k)) := by
  fin_cases k <;> rfl

@[simp] theorem exec_alu (op : AluOp) (x : Src8) (s : State) :
    exec (.alu op x) s = .next ((srcRead x s).alu op (srcValue x s)) := by
  cases x with
  | reg r => cases op <;> cases r <;> rfl
  | ind => cases op <;> rfl
  | imm v => cases op <;> rfl

@[simp] theorem exec_inc8 (t : Target8) (s : State) :
    exec (.inc8 t) s = .next (((s.readTarget t).2.writeTarget t (inc8 (s.readTarget t).1).1).setZnh
      (inc8 (s.readTarget t).1).2.1 false (inc8 (s.readTarget t).1).2.2) := by
  cases t with
  | reg r => cases r <;> rfl
  | ind => rfl

@[simp] theorem exec_dec8 (t : Target8) (s : State) :
    exec (.dec8 t) s = .next (((s.readTarget t).2.writeTarget t (dec8 (s.readTarget t).1).1).setZnh
      (dec8 (s.readTarget t).1).2.1 true (dec8 (s.readTarget t).1).2.2) := by
  cases t with
  | reg r => cases r <;> rfl
  | ind => rfl

@[simp] theorem exec_daa (s : State) :
    exec .daa s =
      let r := daa8 s.a (s.flag .n) (s.flag .h) (s.flag .c)
      .next ((((s.setReg8 .a r.1).setFlag .z r.2.1).setFlag .h false).setFlag .c r.2.2) := rfl

@[simp] theorem exec_cpl (s : State) :
    exec .cpl s = .next (((s.setReg8 .a (~~~s.a)).setFlag .n true).setFlag .h true) := rfl

@[simp] theorem exec_scf (s : State) : exec .scf s = .next (s.setNhc false false true) := rfl

@[simp] theorem exec_ccf (s : State) : exec .ccf s = .next (s.setNhc false false (!s.flag .c)) := rfl

@[simp] theorem exec_inc16 (p : Reg16) (s : State) : exec (.inc16 p) s = .next (s.setReg16 p (s.reg16 p + 1)) := by
  cases p <;> rfl

@[simp] theorem exec_dec16 (p : Reg16) (s : State) : exec (.dec16 p) s = .next (s.setReg16 p (s.reg16 p - 1)) := by
  cases p <;> rfl

@[simp] theorem exec_addHl (p : Reg16) (s : State) :
    exec (.addHl p) s =
      let r := add16 s.hl (s.reg16 p)
      .next ((s.setReg16 .hl r.1).setNhc false r.2.1 r.2.2) := by
  cases p <;> rfl

@[simp] theorem exec_add_SP_e8 (e8 : Byte) (s : State) :
    exec (.add_SP_e8 e8) s =
      let r := addSpE s.sp e8
      .next ((s.setReg16 .sp r.1).setZnhc false false r.2.1 r.2.2) := rfl

@[simp] theorem exec_ld_HL_SPe8 (e8 : Byte) (s : State) :
    exec (.ld_HL_SPe8 e8) s =
      let r := addSpE s.sp e8
      .next ((s.setReg16 .hl r.1).setZnhc false false r.2.1 r.2.2) := rfl

@[simp] theorem exec_rlca (s : State) : exec .rlca s = rotateA .rlc s := rfl

@[simp] theorem exec_rrca (s : State) : exec .rrca s = rotateA .rrc s := rfl

@[simp] theorem exec_rla (s : State) : exec .rla s = rotateA .rl s := rfl

@[simp] theorem exec_rra (s : State) : exec .rra s = rotateA .rr s := rfl

theorem rotateA_eq (kind : RotKind) (s : State) :
    rotateA kind s =
      let r := rot8 kind s.a (s.flag .c)
      .next ((s.setReg8 .a r.1).setZnhc false false false r.2) := rfl

@[simp] theorem exec_rot (kind : RotKind) (t : Target8) (s : State) :
    exec (.rot kind t) s = onWired (opByte 0 (rotCode kind) (targetCode t)) (fun s => s.rotOp kind t) s := by
  cases kind <;> cases t <;> rfl

@[simp] theorem exec_bit (b : BitVec 3) (t : Target8) (s : State) :
    exec (.bit b t) s = onWired (opByte 1 b (targetCode t)) (fun s => s.testBit b t) s := by
  cases t <;> rfl

@[simp] theorem exec_res (b : BitVec 3) (t : Target8) (s : State) :
    exec (.res b t) s = onWired (opByte 2 b (targetCode t)) (fun s => s.clearBit b t) s := by
  cases t <;> rfl

@[simp] theorem exec_set (b : BitVec 3) (t : Target8) (s : State) :
    exec (.set b t) s = onWired (opByte 3 b (targetCode t)) (fun s => s.raiseBit b t) s := by
  cases t <;> rfl

@[simp] theorem exec_jr_e8 (e8 : Byte) (s : State) : exec (.jr_e8 e8) s = .next (s.jump (s.relTarget e8)) := rfl

@[simp] theorem exec_jrIf (cc : Cond) (e8 : Byte) (s : State) :
    exec (.jrIf cc e8) s = branchIf cc .jr (fun s => s.jump (s.relTarget e8)) s := by
  cases cc <;> rfl

@[simp] theorem exec_jp_a16 (a16 : Word) (s : State) : exec (.jp_a16 a16) s = .next (s.jump a16) := rfl

@[simp] theorem exec_jpIf (cc : Cond) (a16 : Word) (s : State) :
    exec (.jpIf cc a16) s = branchIf cc .jp (fun s => s.jump a16) s := by
  cases cc <;> rfl

@[simp] theorem exec_jp_HL (s : State) : exec .jp_HL s = .next (s.jump s.hl) := rfl

@[simp] theorem exec_call_a16 (a16 : Word) (s : State) : exec (.call_a16 a16) s = .next (s.call a16) := rfl

@[simp] theorem exec_callIf (cc : Cond) (a16 : Word) (s : State) :
    exec (.callIf cc a16) s = branchIf cc .call (fun s => s.call a16) s := by
  cases cc <;> rfl

@[simp] theorem exec_ret (s : State) : exec .ret s = .next s.popPc := rfl

@[simp] theorem exec_retIf (cc : Cond) (s : State) : exec (.retIf cc) s = branchIf cc .ret State.popPc s := by
  cases cc <;> rfl

@[simp] theorem exec_reti (s : State) : exec .reti s = .next s.returnFromDivert := rfl

@[simp] theorem exec_rst (y : Fin 8) (s : State) : exec (.rst y) s = .next (s.call (BitVec.ofNat 16 (8 * y))) := by
  fin_cases y <;> rfl

@[simp] theorem exec_ldReg (dst src : Reg8) (s : State) :
    exec (.ldReg dst src) s = .next (s.setReg8 dst (s.reg8 src)) := by
  cases dst <;> cases src <;> rfl

@[simp] theorem exec_ldImm (dst : Reg8) (d8 : Byte) (s : State) : exec (.ldImm dst d8) s = .next (s.setReg8 dst d8) := by
  cases dst <;> rfl

@[simp] theorem exec_ldLoad (dst : Reg8) (s : State) :
    exec (.ldLoad dst) s = .next ((s.memRead s.hl).2.setReg8 dst (s.peek s.hl)) := by
  cases dst <;> rfl

@[simp] theorem exec_ldStore (src : Reg8) (s : State) :
    exec (.ldStore src) s = .next (s.memWrite s.hl (s.reg8 src)) := by
  cases src <;> rfl

@[simp] theorem exec_ld_mHL_d8 (d8 : Byte) (s : State) : exec (.ld_mHL_d8 d8) s = .next (s.memWrite s.hl d8) := rfl

theorem loadAFrom_eq (addr : Word) (s : State) :
    loadAFrom addr s = .next ((s.memRead addr).2.setReg8 .a (s.peek addr)) := rfl

@[simp] theorem exec_ld_A_mBC (s : State) : exec .ld_A_mBC s = loadAFrom s.bc s := rfl

@[simp] theorem exec_ld_A_mDE (s : State) : exec .ld_A_mDE s = loadAFrom s.de s := rfl

@[simp] theorem exec_ldh_A_ma8 (a8 : Byte) (s : State) : exec (.ldh_A_ma8 a8) s = loadAFrom (highPageAddr a8) s := rfl

@[simp] theorem exec_ld_A_mC (s : State) : exec .ld_A_mC s = loadAFrom (highPageAddr s.c) s := rfl

@[simp] theorem exec_ld_A_ma16 (a16 : Word) (s : State) : exec (.ld_A_ma16 a16) s = loadAFrom a16 s := rfl

@[simp] theorem exec_ld_mBC_A (s : State) : exec .ld_mBC_A s = .next (s.memWrite s.bc s.a) := rfl

@[simp] theorem exec_ld_mDE_A (s : State) : exec .ld_mDE_A s = .next (s.memWrite s.de s.a) := rfl

@[simp] theorem exec_ldh_ma8_A (a8 : Byte) (s : State) :
    exec (.ldh_ma8_A a8) s = .next (s.memWrite (highPageAddr a8) s.a) := rfl

@[simp] theorem exec_ld_mC_A (s : State) : exec .ld_mC_A s = .next (s.memWrite (highPageAddr s.c) s.a) := rfl

@[simp] theorem exec_ld_ma16_A (a16 : Word) (s : State) : exec (.ld_ma16_A a16) s = .next (s.memWrite a16 s.a) := rfl

theorem loadAHlStep_eq (step : Word) (s : State) :
    loadAHlStep step s = .next (((s.memRead s.hl).2.setReg8 .a (s.peek s.hl)).setReg16 .hl (s.hl + step)) := rfl

theorem storeAHlStep_eq (step : Word) (s : State) :
    storeAHlStep step s = .next ((s.memWrite s.hl s.a).setReg16 .hl (s.hl + step)) := rfl

@[simp] theorem exec_ld_A_mHLi (s : State) : exec .ld_A_mHLi s = loadAHlStep 1 s := rfl

@[simp] theorem exec_ld_A_mHLd (s : State) : exec .ld_A_mHLd s = loadAHlStep (-1) s := rfl

@[simp] theorem exec_ld_mHLi_A (s : State) : exec .ld_mHLi_A s = storeAHlStep 1 s := rfl

@[simp] theorem exec_ld_mHLd_A (s : State) : exec .ld_mHLd_A s = storeAHlStep (-1) s := rfl

@[simp] theorem exec_ldImm16 (p : Reg16) (d16 : Word) (s : State) : exec (.ldImm16 p d16) s = .next (s.setReg16 p d16) := by
  cases p <;> rfl

@[simp] theorem exec_ld_SP_HL (s : State) : exec .ld_SP_HL s = .next (s.setReg16 .sp s.hl) := rfl

@[simp] theorem exec_ld_ma16_SP (a16 : Word) (s : State) : exec (.ld_ma16_SP a16) s = .next (s.write16 a16 s.sp) := rfl

@[simp] theorem exec_push (q : StackReg) (s : State) : exec (.push q) s = .next (s.push16 (s.stackReg q)) := by
  cases q <;> rfl

@[simp] theorem exec_pop (q : StackReg) (s : State) : exec (.pop q) s = .next (s.pop16.2.setStackReg q s.pop16.1) := by
  cases q <;> rfl

/-! What holds of the next state. -/

/-- `P` holds of the next state, when `r` is one. -/
def Ensures (r : Result) (P : State → Prop) : Prop := ∀ t, r = .next t → P t

@[simp] theorem ensures_next {s : State} {P : State → Prop} : Ensures (.next s) P ↔ P s := by
  simp [Ensures]

/-- A secondary rule runs, or latches its fault (R84, R228). -/
@[simp] theorem ensures_onWired {op2 : Byte} {rule : State → State} {s : State} {P : State → Prop} :
    Ensures (onWired op2 rule s) P ↔
      (s.cfg.implements op2 = true → P (rule s)) ∧ (s.cfg.implements op2 = false → P (s.latchUnimplemented op2)) := by
  cases h : s.cfg.implements op2 <;> simp [onWired, h]

/-- A conditional transfer is taken, with its surcharge, or nothing happens (R171). -/
@[simp] theorem ensures_branchIf {cc : Cond} {kind : BranchKind} {transfer : State → State} {s : State}
    {P : State → Prop} :
    Ensures (branchIf cc kind transfer s) P ↔
      (s.cond cc = true → P ((transfer s).takeBranch kind)) ∧ (s.cond cc = false → P s) := by
  cases h : s.cond cc <;> simp [branchIf, h]

end Sys2Proof.Machine
end

section
/-! What every row keeps of the control state, the latch and the flags. -/

namespace Sys2Proof.Machine

open Sys2Proof.Claims

/-! The accumulator operations and the read of a source operand, by the state updates they are made of. -/

/-- Reading a source operand puts at most its access on the bus (R100). -/
theorem srcRead_eq (x : Src8) (s : State) : ∃ bus, srcRead x s = { s with bus := bus } := by
  cases x <;> exact ⟨_, rfl⟩

/-- An accumulator operation writes `A` where it is a destination, and all four flags (R103 to R110). -/
theorem State.alu_eq (s : State) (op : AluOp) (v : Byte) :
    s.alu op v =
      let r := aluResult op s.a v (s.flag .c)
      (if writesA op then s.setReg8 .a r.res else s).setZnhc r.z r.n r.h r.c := rfl

/-! ## Control state -/

/-- IME, the pending enable, the run-state, the parameters and the ports of the outside agents are as they were (R229). -/
structure ControlKept (s t : State) : Prop where
  ime : t.ime = s.ime
  imePending : t.imePending = s.imePending
  run : t.run = s.run
  cfg : t.cfg = s.cfg
  agenda : t.agenda = s.agenda
  acted : t.acted = s.acted
  ret : t.ret = s.ret

theorem controlKept_iff {s t : State} : ControlKept s t ↔
    t.ime = s.ime ∧ t.imePending = s.imePending ∧ t.run = s.run ∧ t.cfg = s.cfg ∧ t.agenda = s.agenda ∧
      t.acted = s.acted ∧ t.ret = s.ret :=
  ⟨fun ⟨h1, h2, h3, h4, h5, h6, h7⟩ => ⟨h1, h2, h3, h4, h5, h6, h7⟩,
   fun ⟨h1, h2, h3, h4, h5, h6, h7⟩ => ⟨h1, h2, h3, h4, h5, h6, h7⟩⟩

theorem controlKept_alu (s : State) (op : AluOp) (x : Src8) (v : Byte) : ControlKept s ((srcRead x s).alu op v) := by
  obtain ⟨bus, hbus⟩ := srcRead_eq x s
  rw [hbus, State.alu_eq]
  cases writesA op <;> simp [controlKept_iff]

/-- Only `HALT`, `STOP`, `DI`, `EI` and `RETI` write control state (R229). -/
theorem exec_controlKept {i : Instr} (hwf : i.wf = true) (s : State)
    (hi : i ∉ [.halt, .stop, .di, .ei, .reti]) : Ensures (exec i s) (ControlKept s) := by
  cases i.row with
  | halt | stop | di | ei | reti => simp at hi
  | prefix_CB => cases hwf
  | alu op x => simp [controlKept_alu]
  | nop | illegal => simp [controlKept_iff]
  | inc8 | dec8 | daa | cpl | scf | ccf => simp [controlKept_iff]
  | inc16 | dec16 | addHl | add_SP_e8 | ld_HL_SPe8 => simp [controlKept_iff]
  | rlca | rrca | rla | rra => simp [controlKept_iff, rotateA_eq]
  | rot | bit | res | set =>
    simp [controlKept_iff, State.rotOp, State.testBit, State.clearBit, State.raiseBit]
  | jr_e8 | jrIf | jp_a16 | jpIf | jp_HL | call_a16 | callIf | ret | retIf | rst => simp [controlKept_iff]
  | ldReg | ldImm | ldLoad | ldStore | ld_mHL_d8 => simp [controlKept_iff]
  | ld_A_mBC | ld_A_mDE | ldh_A_ma8 | ld_A_mC | ld_A_ma16 => simp [controlKept_iff, loadAFrom_eq]
  | ld_mBC_A | ld_mDE_A | ldh_ma8_A | ld_mC_A | ld_ma16_A => simp [controlKept_iff]
  | ld_A_mHLi | ld_A_mHLd | ld_mHLi_A | ld_mHLd_A => simp [controlKept_iff, loadAHlStep_eq, storeAHlStep_eq]
  | ldImm16 | ld_SP_HL | ld_ma16_SP | push | pop => simp [controlKept_iff]

/-! ## The latch -/

@[simp] theorem State.latchIllegal_fault (s : State) (b1 : Byte) :
    (s.latchIllegal b1).fault = some (.illegalOpcode (s.pc - 1) [b1]) := rfl

@[simp] theorem State.latchUnimplemented_fault (s : State) (op2 : Byte) :
    (s.latchUnimplemented op2).fault = some (.unimplementedOpcode (s.pc - 2) [0xCB, op2]) := rfl

/-- A row leaves the latch as it was, or it sets the latch and does nothing else (R83, R84, R243). -/
theorem exec_fault_or_latch {i : Instr} (hwf : i.wf = true) (s : State) :
    Ensures (exec i s) fun t => t.fault = s.fault ∨ ∃ record, t = s.latchFault record := by
  cases i.row with
  | prefix_CB => cases hwf
  | illegal k => simpa using .inr ⟨_, rfl⟩
  | rot kind t => simpa using ⟨fun _ => .inl (by simp [State.rotOp]), fun _ => .inr ⟨_, rfl⟩⟩
  | bit b t => simpa using ⟨fun _ => .inl (by simp [State.testBit]), fun _ => .inr ⟨_, rfl⟩⟩
  | res b t => simpa using ⟨fun _ => .inl (by simp [State.clearBit]), fun _ => .inr ⟨_, rfl⟩⟩
  | set b t => simpa using ⟨fun _ => .inl (by simp [State.raiseBit]), fun _ => .inr ⟨_, rfl⟩⟩
  | alu op x =>
    obtain ⟨bus, hbus⟩ := srcRead_eq x s
    cases h : writesA op <;> simp [hbus, State.alu_eq, h]
  | stop => cases h : s.cfg.stopTwoBytes <;> simp [h]
  | ei => cases h : s.cfg.eiDelay <;> cases h' : s.ime <;> simp [h, h']
  | nop | halt | di => simp
  | inc8 | dec8 | daa | cpl | scf | ccf => simp
  | inc16 | dec16 | addHl | add_SP_e8 | ld_HL_SPe8 => simp
  | rlca | rrca | rla | rra => simp [rotateA_eq]
  | jr_e8 | jrIf | jp_a16 | jpIf | jp_HL | call_a16 | callIf | ret | retIf | reti | rst => simp
  | ldReg | ldImm | ldLoad | ldStore | ld_mHL_d8 => simp
  | ld_A_mBC | ld_A_mDE | ldh_A_ma8 | ld_A_mC | ld_A_ma16 => simp [loadAFrom_eq]
  | ld_mBC_A | ld_mDE_A | ldh_ma8_A | ld_mC_A | ld_ma16_A => simp
  | ld_A_mHLi | ld_A_mHLd | ld_mHLi_A | ld_mHLd_A => simp [loadAHlStep_eq, storeAHlStep_eq]
  | ldImm16 | ld_SP_HL | ld_ma16_SP | push | pop => simp

/-! ## Flags -/

theorem Flag.bit_lt (fl : Flag) : fl.bit < 8 := by cases fl <;> decide

theorem Flag.bit_inj {x y : Flag} : x.bit = y.bit ↔ x = y := by cases x <;> cases y <;> decide

/-- Writing a flag sets that flag and keeps the other three (R24). -/
@[simp] theorem State.flag_setFlag (s : State) (x y : Flag) (v : Bool) :
    (s.setFlag x v).flag y = if y = x then v else s.flag y := by
  simp only [State.flag, State.setFlag, writeBit_getLsbD _ _ _ _ y.bit_lt, Flag.bit_inj]

/-- Writing a flag keeps the low nibble of `F` (R24). -/
@[simp] theorem State.lowNibble_setFlag (s : State) (x : Flag) (v : Bool) :
    (s.setFlag x v).f &&& 15#8 = s.f &&& 15#8 := by
  have h : ∀ (f : Byte) (v : Bool), writeBit f x.bit v &&& 15#8 = f &&& 15#8 := by cases x <;> decide
  exact h s.f v

@[simp] theorem State.flag_setZnh (s : State) (z n h : Bool) :
    (s.setZnh z n h).flag .z = z ∧ (s.setZnh z n h).flag .n = n ∧ (s.setZnh z n h).flag .h = h ∧
      (s.setZnh z n h).flag .c = s.flag .c := by
  simp [State.setZnh]

@[simp] theorem State.flag_setNhc (s : State) (n h c : Bool) :
    (s.setNhc n h c).flag .z = s.flag .z ∧ (s.setNhc n h c).flag .n = n ∧ (s.setNhc n h c).flag .h = h ∧
      (s.setNhc n h c).flag .c = c := by
  simp [State.setNhc]

@[simp] theorem State.flag_setZnhc (s : State) (z n h c : Bool) :
    (s.setZnhc z n h c).flag .z = z ∧ (s.setZnhc z n h c).flag .n = n ∧ (s.setZnhc z n h c).flag .h = h ∧
      (s.setZnhc z n h c).flag .c = c := by
  simp [State.setZnhc]

@[simp] theorem State.lowNibble_setZnh (s : State) (z n h : Bool) : (s.setZnh z n h).f &&& 15#8 = s.f &&& 15#8 := by
  simp only [State.setZnh, State.lowNibble_setFlag]

@[simp] theorem State.lowNibble_setNhc (s : State) (n h c : Bool) : (s.setNhc n h c).f &&& 15#8 = s.f &&& 15#8 := by
  simp only [State.setNhc, State.lowNibble_setFlag]

@[simp] theorem State.lowNibble_setZnhc (s : State) (z n h c : Bool) :
    (s.setZnhc z n h c).f &&& 15#8 = s.f &&& 15#8 := by
  simp only [State.setZnhc, State.lowNibble_setNhc, State.lowNibble_setFlag]

/-- A flag is read from `F` alone (R24). -/
theorem State.flag_congr {s t : State} (h : t.f = s.f) (fl : Flag) : t.flag fl = s.flag fl := by
  simp only [State.flag, h]

@[simp] theorem State.flag_setReg8 (s : State) (r : Reg8) (v : Byte) (fl : Flag) :
    (s.setReg8 r v).flag fl = s.flag fl := State.flag_congr (by simp) fl

@[simp] theorem State.flag_setReg16 (s : State) (p : Reg16) (v : Word) (fl : Flag) :
    (s.setReg16 p v).flag fl = s.flag fl := State.flag_congr (by simp) fl

@[simp] theorem State.flag_readTarget (s : State) (t : Target8) (fl : Flag) :
    (s.readTarget t).2.flag fl = s.flag fl := State.flag_congr (by simp) fl

@[simp] theorem State.flag_writeTarget (s : State) (t : Target8) (v : Byte) (fl : Flag) :
    (s.writeTarget t v).flag fl = s.flag fl := State.flag_congr (by simp) fl

/-- What R26 asks of `F` across a row that latches no fault: each flag as the row's column says, and the low nibble as it
was, but 0 after `POP AF`. -/
def FlagsFollow (i : Instr) (s t : State) : Prop :=
  (flagColumn i).z.allows (zf s) (zf t) ∧ (flagColumn i).n.allows (nf s) (nf t) ∧
  (flagColumn i).h.allows (hf s) (hf t) ∧ (flagColumn i).c.allows (cf s) (cf t) ∧
  (t.f &&& 0x0F = if i = .pop_AF then 0 else s.f &&& 0x0F)

/-- `POP AF` is the one row that computes all four flags; of a row with another column, by that column. -/
theorem flagsFollow_iff {i : Instr} {column : FlagColumn} (hcolumn : flagColumn i = column)
    (s t : State) (hne : column ≠ flagColumn .pop_AF := by decide) :
    FlagsFollow i s t ↔ column.z.allows (s.flag .z) (t.flag .z) ∧ column.n.allows (s.flag .n) (t.flag .n) ∧
      column.h.allows (s.flag .h) (t.flag .h) ∧ column.c.allows (s.flag .c) (t.flag .c) ∧
      t.f &&& 0x0F = s.f &&& 0x0F := by
  have hi : i ≠ .pop_AF := fun h => hne (h ▸ hcolumn.symm)
  simp only [FlagsFollow, hcolumn, if_neg hi]
  rfl

/-- A row whose column is `- - - -` keeps `F`. -/
theorem flagsFollow_of_f {i : Instr} (hcolumn : flagColumn i = ⟨.kept, .kept, .kept, .kept⟩) {s t : State}
    (h : t.f = s.f) : FlagsFollow i s t := by
  rw [flagsFollow_iff hcolumn]
  simp only [FlagEffect.allows, State.flag_congr h, h, and_self]

/-- The flags column of the accumulator operations (R103 to R110). -/
def aluColumn : AluOp → FlagColumn
  | .add | .adc => ⟨.computed, .cleared, .computed, .computed⟩
  | .sub | .sbc | .cp => ⟨.computed, .raised, .computed, .computed⟩
  | .and => ⟨.computed, .cleared, .raised, .cleared⟩
  | .xor | .or => ⟨.computed, .cleared, .cleared, .cleared⟩

theorem flagColumn_alu (op : AluOp) (x : Src8) : flagColumn (.alu op x) = aluColumn op := by
  cases x with
  | reg r => cases op <;> cases r <;> rfl
  | ind => cases op <;> rfl
  | imm v => cases op <;> rfl

theorem flagColumn_inc8 (t : Target8) : flagColumn (.inc8 t) = ⟨.computed, .cleared, .computed, .kept⟩ := by
  cases t with
  | reg r => cases r <;> rfl
  | ind => rfl

theorem flagColumn_dec8 (t : Target8) : flagColumn (.dec8 t) = ⟨.computed, .raised, .computed, .kept⟩ := by
  cases t with
  | reg r => cases r <;> rfl
  | ind => rfl

theorem flagColumn_addHl (p : Reg16) : flagColumn (.addHl p) = ⟨.kept, .cleared, .computed, .computed⟩ := by
  cases p <;> rfl

theorem flagColumn_bit (b : BitVec 3) (t : Target8) : flagColumn (.bit b t) = ⟨.computed, .cleared, .raised, .kept⟩ := by
  cases t <;> rfl

theorem flagColumn_daa : flagColumn .daa = ⟨.computed, .kept, .cleared, .computed⟩ := rfl

theorem flagColumn_cpl : flagColumn .cpl = ⟨.kept, .raised, .raised, .kept⟩ := rfl

theorem flagColumn_scf : flagColumn .scf = ⟨.kept, .cleared, .cleared, .raised⟩ := rfl

theorem flagColumn_ccf : flagColumn .ccf = ⟨.kept, .cleared, .cleared, .computed⟩ := rfl

theorem flagColumn_add_SP_e8 (e8 : Byte) :
    flagColumn (.add_SP_e8 e8) = ⟨.cleared, .cleared, .computed, .computed⟩ := rfl

theorem flagColumn_ld_HL_SPe8 (e8 : Byte) :
    flagColumn (.ld_HL_SPe8 e8) = ⟨.cleared, .cleared, .computed, .computed⟩ := rfl

/-- The accumulator operations leave the flags their column gives (R103 to R110). -/
theorem flagsFollow_alu (op : AluOp) (x : Src8) (s : State) (v : Byte) :
    FlagsFollow (.alu op x) s ((srcRead x s).alu op v) := by
  obtain ⟨bus, hbus⟩ := srcRead_eq x s
  rw [flagsFollow_iff (flagColumn_alu op x) (hne := by cases op <;> decide), hbus, State.alu_eq]
  cases op <;> simp [aluColumn, FlagEffect.allows, writesA, aluResult, add8, sub8, logic8]

/-- The rotates and shifts leave `Cf` computed, `SWAP` clears it (R146 to R153). -/
theorem flagsFollow_rot (kind : RotKind) (t : Target8) (s : State) : FlagsFollow (.rot kind t) s (s.rotOp kind t) := by
  cases kind with
  | swap =>
    have hcolumn : flagColumn (.rot .swap t) = ⟨.computed, .cleared, .cleared, .cleared⟩ := by cases t <;> rfl
    rw [flagsFollow_iff hcolumn]
    simp [FlagEffect.allows, State.rotOp, rot8]
  | rlc | rrc | rl | rr | sla | sra | srl =>
    rw [flagsFollow_iff (column := ⟨.computed, .cleared, .cleared, .computed⟩) (by cases t <;> rfl)]
    simp [FlagEffect.allows, State.rotOp]

theorem flagsFollow_rotateA {i : Instr} (hcolumn : flagColumn i = ⟨.cleared, .cleared, .cleared, .computed⟩)
    (kind : RotKind) (s : State) : Ensures (rotateA kind s) (FlagsFollow i s) := by
  rw [rotateA_eq, ensures_next, flagsFollow_iff hcolumn]
  simp [FlagEffect.allows]

/-- A row whose column is `- - - -` and that keeps `F`. -/
theorem ensures_flagsFollow_of_f {i : Instr} (hcolumn : flagColumn i = ⟨.kept, .kept, .kept, .kept⟩) {r : Result}
    {s : State} (h : Ensures r fun t => t.f = s.f) : Ensures r fun t => t.fault = none → FlagsFollow i s t :=
  fun t ht _ => flagsFollow_of_f hcolumn (h t ht)

/-- `POP AF` computes the four flags and forces the low nibble to 0 (R214). -/
theorem flagsFollow_pop_AF (s t : State) (v : Word) : FlagsFollow .pop_AF s (t.setStackReg .af v) := by
  have hlow : ∀ b : Byte, b &&& 0xF0 &&& 0x0F = 0 := by decide
  exact ⟨trivial, trivial, trivial, trivial, hlow (loByte v)⟩

/-- A row that latches no fault leaves the flags its column gives (R26). -/
theorem exec_flagsFollow {i : Instr} (hwf : i.wf = true) (s : State) :
    Ensures (exec i s) fun t => t.fault = none → FlagsFollow i s t := by
  cases i.row with
  | prefix_CB => cases hwf
  | illegal k => simp
  | alu op x => simp [flagsFollow_alu]
  | inc8 t => simp [flagsFollow_iff (flagColumn_inc8 t), FlagEffect.allows]
  | dec8 t => simp [flagsFollow_iff (flagColumn_dec8 t), FlagEffect.allows]
  | daa => simp [flagsFollow_iff flagColumn_daa, FlagEffect.allows]
  | cpl => simp [flagsFollow_iff flagColumn_cpl, FlagEffect.allows]
  | scf => simp [flagsFollow_iff flagColumn_scf, FlagEffect.allows]
  | ccf => simp [flagsFollow_iff flagColumn_ccf, FlagEffect.allows]
  | addHl p => simp [flagsFollow_iff (flagColumn_addHl p), FlagEffect.allows]
  | add_SP_e8 e8 => simp [flagsFollow_iff (flagColumn_add_SP_e8 e8), FlagEffect.allows]
  | ld_HL_SPe8 e8 => simp [flagsFollow_iff (flagColumn_ld_HL_SPe8 e8), FlagEffect.allows]
  | rlca => exact fun t ht _ => flagsFollow_rotateA rfl .rlc s t ht
  | rrca => exact fun t ht _ => flagsFollow_rotateA rfl .rrc s t ht
  | rla => exact fun t ht _ => flagsFollow_rotateA rfl .rl s t ht
  | rra => exact fun t ht _ => flagsFollow_rotateA rfl .rr s t ht
  | rot kind t => simp [flagsFollow_rot]
  | bit b t => simp [flagsFollow_iff (flagColumn_bit b t), FlagEffect.allows, State.testBit]
  | res b t | set b t =>
    exact ensures_flagsFollow_of_f (by cases t <;> rfl) (by simp [State.clearBit, State.raiseBit])
  | inc16 p | dec16 p | ldImm16 p => exact ensures_flagsFollow_of_f (by cases p <;> rfl) (by simp)
  | jrIf cc | jpIf cc | callIf cc | retIf cc => exact ensures_flagsFollow_of_f (by cases cc <;> rfl) (by simp)
  | rst y => exact ensures_flagsFollow_of_f (by fin_cases y <;> rfl) (by simp)
  | ldReg dst src => exact ensures_flagsFollow_of_f (by cases dst <;> cases src <;> rfl) (by simp)
  | ldImm r | ldLoad r | ldStore r => exact ensures_flagsFollow_of_f (by cases r <;> rfl) (by simp)
  | push q => exact ensures_flagsFollow_of_f (by cases q <;> rfl) (by simp)
  | pop q =>
    cases q with
    | af => exact fun t ht _ => by cases ht; exact flagsFollow_pop_AF s _ _
    | bc | de | hl => exact ensures_flagsFollow_of_f rfl (by simp [State.setStackReg])
  | nop | halt | di => exact ensures_flagsFollow_of_f rfl (by simp)
  | stop => exact ensures_flagsFollow_of_f rfl (by cases h : s.cfg.stopTwoBytes <;> simp [h])
  | ei => exact ensures_flagsFollow_of_f rfl (by cases h : s.cfg.eiDelay <;> cases h' : s.ime <;> simp [h, h'])
  | jr_e8 | jp_a16 | jp_HL | call_a16 | ret | reti => exact ensures_flagsFollow_of_f rfl (by simp)
  | ld_A_mBC | ld_A_mDE | ldh_A_ma8 | ld_A_mC | ld_A_ma16 =>
    exact ensures_flagsFollow_of_f rfl (by simp [loadAFrom_eq])
  | ld_mBC_A | ld_mDE_A | ldh_ma8_A | ld_mC_A | ld_ma16_A => exact ensures_flagsFollow_of_f rfl (by simp)
  | ld_A_mHLi | ld_A_mHLd | ld_mHLi_A | ld_mHLd_A =>
    exact ensures_flagsFollow_of_f rfl (by simp [loadAHlStep_eq, storeAHlStep_eq])
  | ld_mHL_d8 | ld_SP_HL | ld_ma16_SP => exact ensures_flagsFollow_of_f rfl (by simp)

end Sys2Proof.Machine
end

section
/-! Invariants of a move: what has to hold of the parts of a move for a predicate to hold after every step. -/

namespace Sys2Proof.Machine

/-- The parts of a move (R86, R249), each keeping `P`: the ports as a move finds them, the fetch, the rule of a whole
instruction, the end of a step, the idle step, and the moves of the agents. -/
structure MoveInvariant (P : State → Prop) : Prop where
  beginMove : ∀ s rest, P s → P { s.beginMove with agenda := rest }
  beginStep : ∀ s, P s → P s.beginStep
  fetch : ∀ s, s.fault = none → P s → P s.fetch.state
  exec : ∀ i s t, i.wf = true → s.fault = none → P s → exec i s = .next t → P t
  endStep : ∀ s pend cost, P s → P (s.endStep pend cost)
  idleStep : ∀ s, P s → P s.idleStep
  resume : ∀ s, P s → P { s with run := .running, acted := true }
  divert : ∀ s vector, s.fault = none → s.ime = true → P s → P { s.takeDivert vector with acted := true }
  reset : ∀ s init, init.f &&& 0x0F = 0 → P s → P { State.ofInit init s.cfg s.mem with agenda := s.agenda }
  memoryChange : ∀ s (addr : Word) v, P s → P { s with mem := Memory.write s.mem addr.toNat v }

/-- The fetch writes `PC` and the bus alone (R28, R56). -/
theorem State.fetch_state (s : State) : ∃ pc bus, s.fetch.state = { s with pc := pc, bus := bus } := by
  rw [State.fetch_eq]
  exact ⟨_, _, rfl⟩

/-- What is fetched is a whole instruction (R87). -/
theorem State.fetch_instr_wf (s : State) : s.fetch.instr.wf = true := by
  rw [State.fetch_eq]
  exact decodeBytes_wf _ _ _

/-- A running step answers a next state only through the rule of the instruction fetched (R86). -/
theorem runStep_inv {s t : State} (h : runStep s = .next t) :
    ∃ u, exec s.fetch.instr s.fetch.state = .next u ∧
      t = u.endStep s.imePending (chargedCost s.cfg s.fetch.b1 s.fetch.b2) := by
  simp only [runStep] at h
  split at h
  · next u hu => exact ⟨u, hu, by cases h; rfl⟩
  · cases h
  · cases h

/-- A step answers a next state only with no fault latched: it runs an instruction, or it idles (R86, R91, R244). -/
theorem coreStep_inv {s t : State} (h : coreStep s = .next t) :
    s.fault = none ∧ (s.run = .running ∧ runStep s = .next t ∨ s.run ≠ .running ∧ t = s.idleStep) := by
  unfold coreStep at h
  split at h
  · cases h
  · next hf =>
    split at h
    · next hr => exact ⟨hf, .inl ⟨hr, h⟩⟩
    · next hr => exact ⟨hf, .inr ⟨hr, by cases h; rfl⟩⟩

/-- With no outside move due, the machine's step is the core's step of a state with clear ports (R249). -/
theorem step_of_noMove {s : State} (hm : s.agenda = []) : step s = coreStep s.beginMove.beginStep := by
  simp only [step, nextMove, hm, makeMove]

theorem MoveInvariant.coreStep {P : State → Prop} (inv : MoveInvariant P) {s t : State} (hs : P s)
    (h : coreStep s = .next t) : P t := by
  obtain ⟨hf, ⟨-, h⟩ | ⟨-, rfl⟩⟩ := coreStep_inv h
  · obtain ⟨u, hu, rfl⟩ := runStep_inv h
    have hff : s.fetch.state.fault = none := by
      obtain ⟨pc, bus, hfetch⟩ := s.fetch_state
      rw [hfetch, hf]
    exact inv.endStep u _ _ (inv.exec _ _ u s.fetch_instr_wf hff (inv.fetch s hf hs) hu)
  · exact inv.idleStep s hs

theorem MoveInvariant.makeMove {P : State → Prop} (inv : MoveInvariant P) {m : Move} {s t : State} (hs : P s)
    (h : makeMove m s = .next t) : P t := by
  cases m with
  | step => exact inv.coreStep (inv.beginStep s hs) h
  | resume =>
    obtain ⟨-, -, rfl⟩ := State.resume_inv h
    exact inv.resume s hs
  | divert vector =>
    obtain ⟨hf, hi, -, rfl⟩ := State.divert_inv h
    exact inv.divert s vector hf hi hs
  | reset init =>
    obtain ⟨hinit, rfl⟩ := State.externalReset_inv h
    exact inv.reset s init hinit hs
  | memoryChange addr v =>
    cases h
    exact inv.memoryChange s addr v hs

/-- A predicate that every part of a move keeps holds after every step (R249). -/
theorem MoveInvariant.step {P : State → Prop} (inv : MoveInvariant P) {s t : State} (hs : P s)
    (h : step s = .next t) : P t := by
  cases hm : s.agenda with
  | nil =>
    rw [step_of_noMove hm] at h
    exact inv.coreStep (inv.beginStep _ (inv.beginMove s s.agenda hs)) h
  | cons m rest =>
    rw [step_of_move hm] at h
    exact inv.makeMove (inv.beginMove s rest hs) h

end Sys2Proof.Machine
end

section
/-! The flag byte: O54 and O49. -/

namespace Sys2Proof.Machine

/-- Settles O54: a row that latches no fault follows its column, and one that latches a fault does nothing else. -/
theorem flagFrame : Obligations.FlagFrame := by
  intro i s t hwf hs h
  refine ⟨exec_flagsFollow hwf s t h, fun ht => ?_⟩
  rcases exec_fault_or_latch hwf s t h with hkept | ⟨record, rfl⟩
  · exact absurd (hkept.trans hs) ht
  · rfl

/-- A rule keeps the low nibble of `F` at 0 (R25, R26). -/
theorem exec_flagLowNibbleZero {i : Instr} {s t : State} (hwf : i.wf = true) (hfault : s.fault = none)
    (hs : s.FlagLowNibbleZero) (h : exec i s = .next t) : t.FlagLowNibbleZero := by
  obtain ⟨hrow, hlatch⟩ := flagFrame i s t hwf hfault h
  by_cases ht : t.fault = none
  · obtain ⟨-, -, -, -, hlow⟩ := hrow ht
    rw [State.FlagLowNibbleZero, hlow, hs, ite_self]
  · rw [State.FlagLowNibbleZero, hlatch ht, hs]

theorem flagLowNibble_moveInvariant : MoveInvariant State.FlagLowNibbleZero where
  beginMove _ _ hs := hs
  beginStep _ hs := hs
  fetch s _ hs := by
    obtain ⟨pc, bus, hfetch⟩ := s.fetch_state
    rw [hfetch]
    exact hs
  exec _ _ _ hwf hfault hs h := exec_flagLowNibbleZero hwf hfault hs h
  endStep s pend cost hs := by
    obtain ⟨_, _, _, _, _, hend⟩ := s.endStep_frame pend cost
    rw [hend]
    exact hs
  idleStep _ hs := hs
  resume _ hs := hs
  divert _ _ _ _ hs := hs
  reset _ _ hinit _ := hinit
  memoryChange _ _ _ hs := hs

/-- Settles O49: each part of a move keeps the low nibble at 0, the rules by their flags columns. -/
theorem flagLowNibbleStaysZero : Obligations.FlagLowNibbleStaysZero :=
  fun _ _ hs h => flagLowNibble_moveInvariant.step hs h

end Sys2Proof.Machine
end

section
/-! The pending enable: O51. -/

namespace Sys2Proof.Machine

/-- `EI` leaves a pending enable only under `EI_DELAY` and a clear IME (R224, R225). -/
theorem exec_ei_pendingSound {s : State} (hs : s.PendingSound) : Ensures (exec .ei s) State.PendingSound := by
  rw [exec_ei, ensures_next]
  split
  · next hdelay =>
    split
    · exact hs
    · next hime => exact fun _ => ⟨hdelay, eq_false_of_ne_true hime⟩
  · next hdelay => exact fun hp => absurd (hs hp).1 hdelay

/-- `STOP` writes neither the enable nor the parameters (R222). -/
theorem exec_stop_pendingSound {s : State} (hs : s.PendingSound) : Ensures (exec .stop s) State.PendingSound := by
  rw [exec_stop, ensures_next]
  split <;> exact hs

/-- A rule keeps the pending enable sound: `EI` alone sets it, `DI` and `RETI` clear it (R181, R223), and no other row
writes IME, the pending enable or the parameters (R229). -/
theorem exec_pendingSound {i : Instr} (hwf : i.wf = true) {s : State} (hs : s.PendingSound) :
    Ensures (exec i s) State.PendingSound := by
  by_cases hi : i ∈ [.halt, .stop, .di, .ei, .reti]
  · simp only [List.mem_cons, List.not_mem_nil, or_false] at hi
    rcases hi with rfl | rfl | rfl | rfl | rfl
    · exact ensures_next.2 hs
    · exact exec_stop_pendingSound hs
    · exact ensures_next.2 nofun
    · exact exec_ei_pendingSound hs
    · exact ensures_next.2 nofun
  · intro t ht
    have hkept := exec_controlKept hwf s hi t ht
    rwa [State.PendingSound, hkept.imePending, hkept.cfg, hkept.ime]

/-- The delayed enable, when it takes effect, clears the pending enable as it sets IME (R92). -/
theorem State.endStep_pendingSound {s : State} (hs : s.PendingSound) (pend : Bool) (cost : Nat) :
    (s.endStep pend cost).PendingSound := by
  unfold State.endStep
  split
  · exact hs
  · unfold State.finishStep
    dsimp only
    split
    · exact nofun
    · exact hs

theorem pendingSound_moveInvariant : MoveInvariant State.PendingSound where
  beginMove _ _ hs := hs
  beginStep _ hs := hs
  fetch s _ hs := by
    obtain ⟨pc, bus, hfetch⟩ := s.fetch_state
    rw [hfetch]
    exact hs
  exec _ _ t hwf _ hs h := exec_pendingSound hwf hs t h
  endStep _ pend cost hs := State.endStep_pendingSound hs pend cost
  idleStep _ hs := hs
  resume _ hs := hs
  divert _ _ _ _ _ := nofun
  reset _ _ _ _ := nofun
  memoryChange _ _ _ hs := hs

/-- Settles O51: each part of a move keeps a pending enable under `EI_DELAY` and away from a set IME. -/
theorem pendingEnableStaysSound : Obligations.PendingEnableStaysSound :=
  fun _ _ hs h => pendingSound_moveInvariant.step hs h

end Sys2Proof.Machine
end

section
/-! The register frame: O55. -/

namespace Sys2Proof.Machine

open Sys2Proof.Claims

/-! The 8-bit registers an operation leaves alone (R21). -/

@[simp] theorem State.reg8_memRead (s : State) (addr : Word) (r : Reg8) : (s.memRead addr).2.reg8 r = s.reg8 r := by
  cases r <;> rfl

@[simp] theorem State.reg8_memWrite (s : State) (addr : Word) (v : Byte) (r : Reg8) :
    (s.memWrite addr v).reg8 r = s.reg8 r := by cases r <;> rfl

@[simp] theorem State.reg8_fetchByte (s : State) (r : Reg8) : s.fetchByte.2.reg8 r = s.reg8 r := by cases r <;> rfl

@[simp] theorem State.reg8_push16 (s : State) (v : Word) (r : Reg8) : (s.push16 v).reg8 r = s.reg8 r := by
  cases r <;> rfl

@[simp] theorem State.reg8_pop16 (s : State) (r : Reg8) : s.pop16.2.reg8 r = s.reg8 r := by cases r <;> rfl

@[simp] theorem State.reg8_write16 (s : State) (addr v : Word) (r : Reg8) : (s.write16 addr v).reg8 r = s.reg8 r := by
  cases r <;> rfl

@[simp] theorem State.reg8_readTarget (s : State) (t : Target8) (r : Reg8) : (s.readTarget t).2.reg8 r = s.reg8 r := by
  cases t with
  | reg q => rfl
  | ind => exact s.reg8_memRead s.hl r

@[simp] theorem State.reg8_setZnh (s : State) (z n h : Bool) (r : Reg8) : (s.setZnh z n h).reg8 r = s.reg8 r := by
  cases r <;> rfl

@[simp] theorem State.reg8_setNhc (s : State) (n h c : Bool) (r : Reg8) : (s.setNhc n h c).reg8 r = s.reg8 r := by
  cases r <;> rfl

@[simp] theorem State.reg8_setZnhc (s : State) (z n h c : Bool) (r : Reg8) : (s.setZnhc z n h c).reg8 r = s.reg8 r := by
  cases r <;> rfl

@[simp] theorem State.reg8_setFlag (s : State) (fl : Flag) (x : Bool) (r : Reg8) : (s.setFlag fl x).reg8 r = s.reg8 r := by
  cases r <;> rfl

@[simp] theorem State.reg8_jump (s : State) (target : Word) (r : Reg8) : (s.jump target).reg8 r = s.reg8 r := by
  cases r <;> rfl

@[simp] theorem State.reg8_call (s : State) (target : Word) (r : Reg8) : (s.call target).reg8 r = s.reg8 r := by
  cases r <;> rfl

@[simp] theorem State.reg8_popPc (s : State) (r : Reg8) : s.popPc.reg8 r = s.reg8 r := by cases r <;> rfl

@[simp] theorem State.reg8_takeBranch (s : State) (kind : BranchKind) (r : Reg8) :
    (s.takeBranch kind).reg8 r = s.reg8 r := by cases r <;> rfl

@[simp] theorem State.reg8_latchIllegal (s : State) (b1 : Byte) (r : Reg8) : (s.latchIllegal b1).reg8 r = s.reg8 r := by
  cases r <;> rfl

@[simp] theorem State.reg8_latchUnimplemented (s : State) (op2 : Byte) (r : Reg8) :
    (s.latchUnimplemented op2).reg8 r = s.reg8 r := by cases r <;> rfl

@[simp] theorem State.reg8_srcRead (s : State) (x : Src8) (r : Reg8) : (srcRead x s).reg8 r = s.reg8 r := by
  obtain ⟨bus, hbus⟩ := srcRead_eq x s
  rw [hbus]
  cases r <;> rfl

/-! The registers an operand form names, and the other registers when it is written. -/

/-- The register a target operand names; the byte at `HL` is none (R140). -/
def targetRegs : Target8 → List Reg8
  | .reg r => [r]
  | .ind => []

/-- The halves of a register pair; `SP` has none (R22, R75). -/
def pairRegs : Reg16 → List Reg8
  | .bc => [.b, .c]
  | .de => [.d, .e]
  | .hl => [.h, .l]
  | .sp => []

/-- The 8-bit registers of a stack pair; `F` is none (R22, R76). -/
def stackRegs : StackReg → List Reg8
  | .bc => [.b, .c]
  | .de => [.d, .e]
  | .hl => [.h, .l]
  | .af => [.a]

theorem State.reg8_writeTarget (s : State) {t : Target8} (v : Byte) {r : Reg8} (hr : r ∉ targetRegs t) :
    (s.writeTarget t v).reg8 r = s.reg8 r := by
  cases t with
  | reg q => exact s.reg8_setReg8_other v (by simpa [targetRegs] using hr)
  | ind => exact s.reg8_memWrite s.hl v r

theorem State.reg8_setReg8_pair (s : State) {x y : Reg8} (v w : Byte) {r : Reg8} (hr : r ∉ [x, y]) :
    ((s.setReg8 x v).setReg8 y w).reg8 r = s.reg8 r := by
  obtain ⟨hx, hy⟩ : r ≠ x ∧ r ≠ y := by simpa using hr
  rw [State.reg8_setReg8_other _ w hy, State.reg8_setReg8_other _ v hx]

theorem State.reg8_setReg16 (s : State) {p : Reg16} (v : Word) {r : Reg8} (hr : r ∉ pairRegs p) :
    (s.setReg16 p v).reg8 r = s.reg8 r := by
  cases p with
  | bc | de | hl => exact s.reg8_setReg8_pair (hiByte v) (loByte v) hr
  | sp => cases r <;> rfl

theorem State.reg8_setStackReg (s : State) {q : StackReg} (v : Word) {r : Reg8} (hr : r ∉ stackRegs q) :
    (s.setStackReg q v).reg8 r = s.reg8 r := by
  cases q with
  | bc | de | hl => exact s.reg8_setReg8_pair (hiByte v) (loByte v) hr
  | af =>
    have hf : (s.setStackReg .af v).reg8 r = (s.setReg8 .a (hiByte v)).reg8 r := by cases r <;> rfl
    rw [hf, State.reg8_setReg8_other _ _ (List.ne_of_not_mem_cons hr)]

/-- Of the pairs, `SP` alone writes `SP` (R75). -/
theorem State.setReg16_sp_of_ne (s : State) {p : Reg16} (v : Word) (hp : p ≠ .sp) : (s.setReg16 p v).sp = s.sp := by
  cases p with
  | sp => exact absurd rfl hp
  | bc | de | hl => rfl

/-! The destinations of the rows, by rule. -/

theorem destRegs_alu (op : AluOp) (x : Src8) : destRegs (.alu op x) = if writesA op then [.a] else [] := by
  cases x with
  | reg r => cases op <;> cases r <;> rfl
  | ind => cases op <;> rfl
  | imm v => cases op <;> rfl

theorem destRegs_inc8 (t : Target8) : destRegs (.inc8 t) = targetRegs t := by
  cases t with
  | reg r => cases r <;> rfl
  | ind => rfl

theorem destRegs_dec8 (t : Target8) : destRegs (.dec8 t) = targetRegs t := by
  cases t with
  | reg r => cases r <;> rfl
  | ind => rfl

theorem destRegs_rot (kind : RotKind) (t : Target8) : destRegs (.rot kind t) = targetRegs t := by
  cases kind <;> cases t <;> rfl

theorem destRegs_res (b : BitVec 3) (t : Target8) : destRegs (.res b t) = targetRegs t := by cases t <;> rfl

theorem destRegs_set (b : BitVec 3) (t : Target8) : destRegs (.set b t) = targetRegs t := by cases t <;> rfl

theorem destRegs_inc16 (p : Reg16) : destRegs (.inc16 p) = pairRegs p := by cases p <;> rfl

theorem destRegs_dec16 (p : Reg16) : destRegs (.dec16 p) = pairRegs p := by cases p <;> rfl

theorem destRegs_ldImm16 (p : Reg16) (d16 : Word) : destRegs (.ldImm16 p d16) = pairRegs p := by cases p <;> rfl

theorem destRegs_addHl (p : Reg16) : destRegs (.addHl p) = pairRegs .hl := by cases p <;> rfl

theorem destRegs_pop (q : StackReg) : destRegs (.pop q) = stackRegs q := by cases q <;> rfl

theorem destRegs_ldReg (dst src : Reg8) : destRegs (.ldReg dst src) = [dst] := by cases dst <;> cases src <;> rfl

theorem destRegs_ldImm (dst : Reg8) (d8 : Byte) : destRegs (.ldImm dst d8) = [dst] := by cases dst <;> rfl

theorem destRegs_ldLoad (dst : Reg8) : destRegs (.ldLoad dst) = [dst] := by cases dst <;> rfl

/-- An accumulator operation writes no 8-bit register but `A`, and `CP` not even that (R100, R110). -/
theorem State.reg8_alu (s : State) (op : AluOp) (v : Byte) {r : Reg8} (hr : r ∉ if writesA op then [Reg8.a] else []) :
    (s.alu op v).reg8 r = s.reg8 r := by
  rw [State.alu_eq]
  cases h : writesA op with
  | false => simp
  | true => simpa using State.reg8_setReg8_other s _ (by simpa [h] using hr)

/-- Every 8-bit register that is no destination of a row keeps its value (R21, R22). -/
theorem exec_reg8 {i : Instr} (hwf : i.wf = true) (s : State) {r : Reg8} (hr : r ∉ destRegs i) :
    Ensures (exec i s) fun t => t.reg8 r = s.reg8 r := by
  cases i.row with
  | prefix_CB => cases hwf
  | alu op x =>
    rw [destRegs_alu] at hr
    simp [State.reg8_alu _ _ _ hr]
  | inc8 t | dec8 t | rot kind t | res b t | set b t =>
    simp only [destRegs_inc8, destRegs_dec8, destRegs_rot, destRegs_res, destRegs_set] at hr
    simp [State.rotOp, State.clearBit, State.raiseBit, State.reg8_writeTarget _ _ hr]
  | bit => simp [State.testBit]
  | inc16 p | dec16 p | ldImm16 p | addHl p =>
    simp only [destRegs_inc16, destRegs_dec16, destRegs_ldImm16, destRegs_addHl] at hr
    simp [State.reg8_setReg16 _ _ hr]
  | pop q =>
    rw [destRegs_pop] at hr
    simp [State.reg8_setStackReg _ _ hr]
  | ldReg dst | ldImm dst | ldLoad dst =>
    simp only [destRegs_ldReg, destRegs_ldImm, destRegs_ldLoad, List.mem_singleton] at hr
    simp [State.reg8_setReg8_other _ _ hr]
  | daa | cpl | rlca | rrca | rla | rra =>
    simp [rotateA_eq, State.reg8_setReg8_other _ _ (List.ne_of_not_mem_cons hr)]
  | ld_A_mBC | ld_A_mDE | ldh_A_ma8 | ld_A_mC | ld_A_ma16 =>
    simp [loadAFrom_eq, State.reg8_setReg8_other _ _ (List.ne_of_not_mem_cons hr)]
  | ld_A_mHLi | ld_A_mHLd =>
    have hhl : r ∉ pairRegs .hl := List.not_mem_of_not_mem_cons hr
    simp [loadAHlStep_eq, State.reg8_setReg16 _ _ hhl, State.reg8_setReg8_other _ _ (List.ne_of_not_mem_cons hr)]
  | ld_mHLi_A | ld_mHLd_A =>
    have hhl : r ∉ pairRegs .hl := hr
    simp [storeAHlStep_eq, State.reg8_setReg16 _ _ hhl]
  | ld_HL_SPe8 =>
    have hhl : r ∉ pairRegs .hl := hr
    simp [State.reg8_setReg16 _ _ hhl]
  | add_SP_e8 | ld_SP_HL =>
    have hsp : r ∉ pairRegs .sp := hr
    simp [State.reg8_setReg16 _ _ hsp]
  | stop =>
    rw [exec_stop, ensures_next]
    split <;> cases r <;> rfl
  | ei =>
    rw [exec_ei, ensures_next]
    split
    · split
      · rfl
      · cases r <;> rfl
    · cases r <;> rfl
  | halt | di | reti => cases r <;> simp [State.reg8]
  | nop | illegal | scf | ccf => simp
  | jr_e8 | jrIf | jp_a16 | jpIf | jp_HL | call_a16 | callIf | ret | retIf | rst => simp
  | ldStore | ld_mHL_d8 | ld_mBC_A | ld_mDE_A | ldh_ma8_A | ld_mC_A | ld_ma16_A | ld_ma16_SP | push => simp

/-! The rows that write `SP`, by rule (R27). -/

theorem writesSp_inc16 (p : Reg16) : writesSp (.inc16 p) = decide (p = .sp) := by cases p <;> rfl

theorem writesSp_dec16 (p : Reg16) : writesSp (.dec16 p) = decide (p = .sp) := by cases p <;> rfl

theorem writesSp_ldImm16 (p : Reg16) (d16 : Word) : writesSp (.ldImm16 p d16) = decide (p = .sp) := by cases p <;> rfl

theorem writesSp_callIf (cc : Cond) (a16 : Word) : writesSp (.callIf cc a16) = true := by cases cc <;> rfl

theorem writesSp_retIf (cc : Cond) : writesSp (.retIf cc) = true := by cases cc <;> rfl

theorem writesSp_rst (y : Fin 8) : writesSp (.rst y) = true := by fin_cases y <;> rfl

theorem writesSp_push (q : StackReg) : writesSp (.push q) = true := by cases q <;> rfl

theorem writesSp_pop (q : StackReg) : writesSp (.pop q) = true := by cases q <;> rfl

/-- A row that does not write `SP` keeps it (R27). -/
theorem exec_sp {i : Instr} (hwf : i.wf = true) (s : State) (hsp : writesSp i = false) :
    Ensures (exec i s) fun t => t.sp = s.sp := by
  cases i.row with
  | prefix_CB => cases hwf
  | callIf | retIf | rst | push | pop =>
    simp [writesSp_callIf, writesSp_retIf, writesSp_rst, writesSp_push, writesSp_pop] at hsp
  | call_a16 | ret | reti | add_SP_e8 | ld_SP_HL => cases hsp
  | inc16 p | dec16 p | ldImm16 p =>
    simp only [writesSp_inc16, writesSp_dec16, writesSp_ldImm16, decide_eq_false_iff_not] at hsp
    simp [State.setReg16_sp_of_ne _ _ hsp]
  | alu op x =>
    obtain ⟨bus, hbus⟩ := srcRead_eq x s
    cases h : writesA op <;> simp [hbus, State.alu_eq, h]
  | stop => cases h : s.cfg.stopTwoBytes <;> simp [h]
  | ei => cases h : s.cfg.eiDelay <;> cases h' : s.ime <;> simp [h, h']
  | addHl | ld_HL_SPe8 => simp [State.setReg16_sp_of_ne]
  | nop | halt | di | illegal => simp
  | inc8 | dec8 | daa | cpl | scf | ccf => simp
  | rlca | rrca | rla | rra => simp [rotateA_eq]
  | rot | bit | res | set => simp [State.rotOp, State.testBit, State.clearBit, State.raiseBit]
  | jr_e8 | jrIf | jp_a16 | jpIf | jp_HL => simp
  | ldReg | ldImm | ldLoad | ldStore | ld_mHL_d8 | ld_ma16_SP => simp
  | ld_A_mBC | ld_A_mDE | ldh_A_ma8 | ld_A_mC | ld_A_ma16 => simp [loadAFrom_eq]
  | ld_mBC_A | ld_mDE_A | ldh_ma8_A | ld_mC_A | ld_ma16_A => simp
  | ld_A_mHLi | ld_A_mHLd | ld_mHLi_A | ld_mHLd_A =>
    simp [loadAHlStep_eq, storeAHlStep_eq, State.setReg16_sp_of_ne]

/-- Settles O55: the 8-bit registers and `SP`, row by row. -/
theorem registerFrame : Obligations.RegisterFrame :=
  fun _ s t hwf h => ⟨fun _ hr => exec_reg8 hwf s hr t h, fun hsp => exec_sp hwf s hsp t h⟩

end Sys2Proof.Machine
end

section
/-! Time is not read: O58. A state advanced by `n` ticks takes the same step, and what it leaves is advanced by `n`. -/

namespace Sys2Proof.Machine

open Sys2Proof.Claims

/-- The state `n` ticks later, and nothing else changed. -/
def State.later (s : State) (n : Ticks) : State := { s with ticks := s.ticks + n }

/-- An outcome whose next state, if there is one, is `n` ticks later. -/
def resultLater (n : Ticks) : Result → Result
  | .next t => .next (t.later n)
  | .fault r => .fault r
  | .refused r => .refused r

/-! What is read of a later state. -/

@[simp] theorem State.later_a (s : State) (n : Ticks) : (s.later n).a = s.a := rfl
@[simp] theorem State.later_c (s : State) (n : Ticks) : (s.later n).c = s.c := rfl
@[simp] theorem State.later_sp (s : State) (n : Ticks) : (s.later n).sp = s.sp := rfl
@[simp] theorem State.later_pc (s : State) (n : Ticks) : (s.later n).pc = s.pc := rfl
@[simp] theorem State.later_ime (s : State) (n : Ticks) : (s.later n).ime = s.ime := rfl
@[simp] theorem State.later_run (s : State) (n : Ticks) : (s.later n).run = s.run := rfl
@[simp] theorem State.later_fault (s : State) (n : Ticks) : (s.later n).fault = s.fault := rfl
@[simp] theorem State.later_imePending (s : State) (n : Ticks) : (s.later n).imePending = s.imePending := rfl
@[simp] theorem State.later_cfg (s : State) (n : Ticks) : (s.later n).cfg = s.cfg := rfl
@[simp] theorem State.later_peek (s : State) (n : Ticks) (addr : Word) : (s.later n).peek addr = s.peek addr := rfl
@[simp] theorem State.later_flag (s : State) (n : Ticks) (fl : Flag) : (s.later n).flag fl = s.flag fl := rfl
@[simp] theorem State.later_bc (s : State) (n : Ticks) : (s.later n).bc = s.bc := rfl
@[simp] theorem State.later_de (s : State) (n : Ticks) : (s.later n).de = s.de := rfl
@[simp] theorem State.later_hl (s : State) (n : Ticks) : (s.later n).hl = s.hl := rfl
@[simp] theorem State.later_relTarget (s : State) (n : Ticks) (e8 : Byte) : (s.later n).relTarget e8 = s.relTarget e8 := rfl
@[simp] theorem State.later_reg8 (s : State) (n : Ticks) (r : Reg8) : (s.later n).reg8 r = s.reg8 r := by cases r <;> rfl
@[simp] theorem State.later_reg16 (s : State) (n : Ticks) (p : Reg16) : (s.later n).reg16 p = s.reg16 p := by
  cases p <;> rfl
@[simp] theorem State.later_stackReg (s : State) (n : Ticks) (q : StackReg) : (s.later n).stackReg q = s.stackReg q := by
  cases q <;> rfl
@[simp] theorem State.later_cond (s : State) (n : Ticks) (cc : Cond) : (s.later n).cond cc = s.cond cc := by
  cases cc <;> rfl
@[simp] theorem srcValue_later (x : Src8) (s : State) (n : Ticks) : srcValue x (s.later n) = srcValue x s := by
  cases x with
  | reg r => exact s.later_reg8 n r
  | ind | imm => rfl

/-! The state updates of a later state. -/

@[simp] theorem State.setReg8_later (s : State) (n : Ticks) (r : Reg8) (v : Byte) :
    (s.later n).setReg8 r v = (s.setReg8 r v).later n := by cases r <;> rfl

@[simp] theorem State.setReg16_later (s : State) (n : Ticks) (p : Reg16) (v : Word) :
    (s.later n).setReg16 p v = (s.setReg16 p v).later n := by cases p <;> rfl

@[simp] theorem State.setStackReg_later (s : State) (n : Ticks) (q : StackReg) (v : Word) :
    (s.later n).setStackReg q v = (s.setStackReg q v).later n := by cases q <;> rfl

@[simp] theorem State.setFlag_later (s : State) (n : Ticks) (fl : Flag) (x : Bool) :
    (s.later n).setFlag fl x = (s.setFlag fl x).later n := rfl

@[simp] theorem State.setZnh_later (s : State) (t : Ticks) (z n h : Bool) :
    (s.later t).setZnh z n h = (s.setZnh z n h).later t := by
  simp only [State.setZnh, State.setFlag_later]

@[simp] theorem State.setNhc_later (s : State) (t : Ticks) (n h c : Bool) :
    (s.later t).setNhc n h c = (s.setNhc n h c).later t := by
  simp only [State.setNhc, State.setFlag_later]

@[simp] theorem State.setZnhc_later (s : State) (t : Ticks) (z n h c : Bool) :
    (s.later t).setZnhc z n h c = (s.setZnhc z n h c).later t := by
  simp only [State.setZnhc, State.setFlag_later, State.setNhc_later]

@[simp] theorem State.memRead_later (s : State) (n : Ticks) (addr : Word) :
    (s.later n).memRead addr = (s.peek addr, (s.memRead addr).2.later n) := rfl

@[simp] theorem State.memWrite_later (s : State) (n : Ticks) (addr : Word) (v : Byte) :
    (s.later n).memWrite addr v = (s.memWrite addr v).later n := rfl

@[simp] theorem State.fetchByte_later (s : State) (n : Ticks) :
    (s.later n).fetchByte = (s.peek s.pc, s.fetchByte.2.later n) := rfl

@[simp] theorem State.push16_later (s : State) (n : Ticks) (v : Word) :
    (s.later n).push16 v = (s.push16 v).later n := rfl

@[simp] theorem State.pop16_later (s : State) (n : Ticks) :
    (s.later n).pop16 = (s.pop16.1, s.pop16.2.later n) := rfl

@[simp] theorem State.write16_later (s : State) (n : Ticks) (addr v : Word) :
    (s.later n).write16 addr v = (s.write16 addr v).later n := rfl

@[simp] theorem State.jump_later (s : State) (n : Ticks) (target : Word) :
    (s.later n).jump target = (s.jump target).later n := rfl

@[simp] theorem State.call_later (s : State) (n : Ticks) (target : Word) :
    (s.later n).call target = (s.call target).later n := rfl

@[simp] theorem State.popPc_later (s : State) (n : Ticks) : (s.later n).popPc = s.popPc.later n := rfl

@[simp] theorem State.returnFromDivert_later (s : State) (n : Ticks) :
    (s.later n).returnFromDivert = s.returnFromDivert.later n := rfl

@[simp] theorem State.latchIllegal_later (s : State) (n : Ticks) (b1 : Byte) :
    (s.later n).latchIllegal b1 = (s.latchIllegal b1).later n := rfl

@[simp] theorem State.latchUnimplemented_later (s : State) (n : Ticks) (op2 : Byte) :
    (s.later n).latchUnimplemented op2 = (s.latchUnimplemented op2).later n := rfl

@[simp] theorem State.readTarget_later (s : State) (n : Ticks) (t : Target8) :
    (s.later n).readTarget t = ((s.readTarget t).1, (s.readTarget t).2.later n) := by
  cases t with
  | reg r => exact Prod.ext (s.later_reg8 n r) rfl
  | ind => rfl

@[simp] theorem State.writeTarget_later (s : State) (n : Ticks) (t : Target8) (v : Byte) :
    (s.later n).writeTarget t v = (s.writeTarget t v).later n := by
  cases t with
  | reg r => exact s.setReg8_later n r v
  | ind => exact s.memWrite_later n s.hl v

@[simp] theorem srcRead_later (x : Src8) (s : State) (n : Ticks) : srcRead x (s.later n) = (srcRead x s).later n := by
  cases x <;> rfl

@[simp] theorem State.alu_later (s : State) (n : Ticks) (op : AluOp) (v : Byte) :
    (s.later n).alu op v = (s.alu op v).later n := by
  cases h : writesA op <;> simp [State.alu_eq, h]

/-- Adding ticks and standing `n` ticks later commute (R9). -/
theorem State.addTicks_later (s : State) (n : Ticks) (k : Nat) : (s.later n).addTicks k = (s.addTicks k).later n := by
  have h : s.ticks + n + BitVec.ofNat 32 k = s.ticks + BitVec.ofNat 32 k + n := by ac_rfl
  simp only [State.later, State.addTicks, h]

theorem State.takeBranch_later (s : State) (n : Ticks) (kind : BranchKind) :
    (s.later n).takeBranch kind = (s.takeBranch kind).later n := by
  simp only [State.takeBranch, State.addTicks_later]
  rfl

/-! The rules of a later state. -/

theorem branchIf_later {transfer : State → State} {n : Ticks} {s : State}
    (htransfer : transfer (s.later n) = (transfer s).later n) (cc : Cond) (kind : BranchKind) :
    branchIf cc kind transfer (s.later n) = resultLater n (branchIf cc kind transfer s) := by
  simp only [branchIf, State.later_cond, htransfer, State.takeBranch_later]
  split <;> rfl

theorem onWired_later {rule : State → State} {n : Ticks} {s : State} (hrule : rule (s.later n) = (rule s).later n)
    (op2 : Byte) : onWired op2 rule (s.later n) = resultLater n (onWired op2 rule s) := by
  simp only [onWired, State.later_cfg, hrule, State.latchUnimplemented_later]
  split <;> rfl

/-- No rule reads `ticks` (R280). -/
theorem exec_later {i : Instr} (hwf : i.wf = true) (s : State) (n : Ticks) :
    exec i (s.later n) = resultLater n (exec i s) := by
  cases i.row with
  | prefix_CB => cases hwf
  | rot kind t => simpa using onWired_later (by simp [State.rotOp]) _
  | bit b t => simpa using onWired_later (by simp [State.testBit]) _
  | res b t => simpa using onWired_later (by simp [State.clearBit]) _
  | set b t => simpa using onWired_later (by simp [State.raiseBit]) _
  | jrIf | jpIf | callIf | retIf => simpa using branchIf_later (by simp) _ _
  | stop =>
    rw [exec_stop, exec_stop, resultLater, apply_ite (State.later · n)]
    rfl
  | ei =>
    rw [exec_ei, exec_ei, resultLater, apply_ite (State.later · n), apply_ite (State.later · n)]
    rfl
  | halt | di => rfl
  | nop | illegal => simp [resultLater]
  | alu | inc8 | dec8 | daa | cpl | scf | ccf => simp [resultLater]
  | inc16 | dec16 | addHl | add_SP_e8 | ld_HL_SPe8 => simp [resultLater]
  | rlca | rrca | rla | rra => simp [resultLater, rotateA_eq]
  | jr_e8 | jp_a16 | jp_HL | call_a16 | ret | reti | rst => simp [resultLater]
  | ldReg | ldImm | ldLoad | ldStore | ld_mHL_d8 => simp [resultLater]
  | ld_A_mBC | ld_A_mDE | ldh_A_ma8 | ld_A_mC | ld_A_ma16 => simp [resultLater, loadAFrom_eq]
  | ld_mBC_A | ld_mDE_A | ldh_ma8_A | ld_mC_A | ld_ma16_A => simp [resultLater]
  | ld_A_mHLi | ld_A_mHLd | ld_mHLi_A | ld_mHLd_A => simp [resultLater, loadAHlStep_eq, storeAHlStep_eq]
  | ldImm16 | ld_SP_HL | ld_ma16_SP | push | pop => simp [resultLater]

/-- The fetch neither reads nor writes `ticks` (R28). -/
theorem State.fetch_later (s : State) (n : Ticks) : (s.later n).fetch = { s.fetch with state := s.fetch.state.later n } := by
  simp only [State.fetch_eq]
  rfl

theorem State.finishStep_later (s : State) (n : Ticks) (pend : Bool) (cost : Nat) :
    (s.later n).finishStep pend cost = (s.finishStep pend cost).later n := by
  simp only [State.finishStep, State.addTicks_later]
  rw [apply_ite (State.later · n)]
  rfl

theorem State.endStep_later (s : State) (n : Ticks) (pend : Bool) (cost : Nat) :
    (s.later n).endStep pend cost = (s.endStep pend cost).later n := by
  cases hf : s.fault with
  | some record =>
    rw [State.endStep_of_fault (t := s.later n) hf, State.endStep_of_fault hf]
    rfl
  | none => rw [State.endStep_of_none (t := s.later n) hf, State.endStep_of_none hf, State.finishStep_later]

/-- A running step reads no tick: its cost is charged and not looked at (R86, R280). -/
theorem runStep_later (s : State) (n : Ticks) : runStep (s.later n) = resultLater n (runStep s) := by
  simp only [runStep, State.fetch_later, exec_later s.fetch_instr_wf]
  cases exec s.fetch.instr s.fetch.state with
  | next t => exact congrArg Host.Outcome.next (t.endStep_later n _ _)
  | fault | refused => rfl

theorem coreStep_later (s : State) (n : Ticks) : coreStep (s.later n) = resultLater n (coreStep s) := by
  simp only [coreStep, State.later_fault, State.later_run, runStep_later]
  cases s.fault with
  | some record => rfl
  | none =>
    by_cases hr : s.run = .running
    · simp only [if_pos hr]
    · simp only [if_neg hr, resultLater, State.idleStep, State.addTicks_later]
      rfl

/-- Settles O58: no part of a step reads `ticks`, so the step of a later state is the step, later. -/
theorem ticksAreNotRead : Obligations.TicksAreNotRead := by
  intro s n hm
  have h : step (s.later n) = resultLater n (step s) := by
    rw [step_of_noMove hm, step_of_noMove (s := s.later n) hm]
    exact coreStep_later s.beginMove.beginStep n
  refine h.trans ?_
  cases step s <;> rfl

end Sys2Proof.Machine
end

section
/-! The accessors: O60. -/

namespace Sys2Proof.Machine

/-- A pair written with the low nibble of its low byte forced to 0 reads back with that nibble 0 (R22, R25). -/
theorem word_lowNibble_cleared (v : Word) : word (hiByte v) (loByte v &&& 0xF0) = v &&& 0xFFF0 := by
  have hhi : hiByte (v &&& 0xFFF0) = hiByte v := by
    rw [hiByte, BitVec.extractLsb'_and]
    exact BitVec.and_allOnes
  have hlo : loByte (v &&& 0xFFF0) = loByte v &&& 0xF0 := by
    rw [loByte, BitVec.extractLsb'_and]
    rfl
  rw [← hhi, ← hlo, word_hi_lo]

/-- Settles O60: the accessors by code, the views and the flag writes. -/
theorem viewsAndFlagAccess : Obligations.ViewsAndFlagAccess := by
  refine ⟨fun s => ?_, fun s v => ?_, fun s => ?_, fun s v => ?_, fun s => ?_, fun s v => ?_, fun s => ?_, fun s v => ?_,
    fun s v => ?_, fun s x y v => ?_⟩
  · exact ⟨rfl, rfl, rfl, rfl, rfl, rfl, rfl⟩
  · exact ⟨rfl, rfl, rfl, rfl, rfl, rfl, rfl⟩
  · exact ⟨rfl, rfl, rfl, rfl⟩
  · exact ⟨rfl, rfl, rfl, rfl⟩
  · exact ⟨rfl, rfl, rfl, rfl⟩
  · exact ⟨rfl, rfl, rfl, rfl⟩
  · exact ⟨word_toNat s.b s.c, word_toNat s.d s.e, word_toNat s.h s.l, word_toNat s.a s.f⟩
  · exact ⟨word_hi_lo v, word_hi_lo v, word_hi_lo v, word_lowNibble_cleared v⟩
  · exact ⟨rfl, rfl, rfl, rfl, rfl, rfl, rfl⟩
  · exact ⟨s.flag_setFlag x y v, s.lowNibble_setFlag x v, rfl, rfl⟩

end Sys2Proof.Machine
end

section
/-! What an instruction does to memory: the writes it makes, in the memory behind the contract and on the bus. One law over
the rows serves the memory frame (O56) and the canonical form (O50). -/

namespace Sys2Proof.Machine

open Sys2Proof.Claims

/-- `Memory.Written addrs m m'`: memory `m'` is `m` after one byte written at each of `addrs`, in order (R56). -/
inductive Memory.Written : List Word → Memory → Memory → Prop where
  | nil (m : Memory) : Written [] m m
  | cons {addr : Word} {v : Byte} {addrs : List Word} {m m' : Memory} :
      Written addrs (Memory.write m addr.toNat v) m' → Written (addr :: addrs) m m'

/-- Writes leave every other address alone. -/
theorem Memory.Written.read_other {addrs : List Word} {m m' : Memory} (h : Memory.Written addrs m m') {addr : Word}
    (haddr : addr ∉ addrs) : Memory.read m' addr.toNat = Memory.read m addr.toNat := by
  induction h with
  | nil => rfl
  | cons _ ih =>
    obtain ⟨hne, hrest⟩ := List.ne_and_not_mem_of_not_mem_cons haddr
    rw [ih hrest, Memory.read_write_other _ _ _ _ (mt BitVec.eq_of_toNat_eq hne)]

/-- Writes keep the canonical form (R51). -/
theorem Memory.Written.wf {addrs : List Word} {m m' : Memory} (h : Memory.Written addrs m m')
    (hm : Memory.wf m = true) : Memory.wf m' = true := by
  induction h with
  | nil => exact hm
  | cons _ ih => exact ih (Memory.wf_write hm _ _)

/-! The accumulator operations and the read of a source operand touch no memory. -/

@[simp] theorem srcRead_mem (x : Src8) (s : State) : (srcRead x s).mem = s.mem := by cases x <;> rfl

@[simp] theorem State.alu_mem (s : State) (op : AluOp) (v : Byte) : (s.alu op v).mem = s.mem := by
  cases h : writesA op <;> simp [State.alu_eq, h]

@[simp] theorem State.alu_bus (s : State) (op : AluOp) (v : Byte) : (s.alu op v).bus = s.bus := by
  cases h : writesA op <;> simp [State.alu_eq, h]

/-! A read adds no write to the bus. -/

theorem writesOf_append (bus bus' : List Access) : writesOf (bus ++ bus') = writesOf bus ++ writesOf bus' :=
  List.filterMap_append

@[simp] theorem State.memRead_writes (s : State) (addr : Word) : writesOf (s.memRead addr).2.bus = writesOf s.bus :=
  (writesOf_append _ _).trans (List.append_nil _)

@[simp] theorem State.fetchByte_writes (s : State) : writesOf s.fetchByte.2.bus = writesOf s.bus :=
  s.memRead_writes s.pc

@[simp] theorem State.pop16_writes (s : State) : writesOf s.pop16.2.bus = writesOf s.bus := by
  rw [State.pop16_eq, writesOf_append]
  exact List.append_nil _

@[simp] theorem State.popPc_writes (s : State) : writesOf s.popPc.bus = writesOf s.bus := s.pop16_writes

@[simp] theorem State.returnFromDivert_writes (s : State) : writesOf s.returnFromDivert.bus = writesOf s.bus :=
  s.pop16_writes

@[simp] theorem State.readTarget_writes (s : State) (t : Target8) :
    writesOf (s.readTarget t).2.bus = writesOf s.bus := by
  cases t with
  | reg r => rfl
  | ind => exact s.memRead_writes s.hl

@[simp] theorem srcRead_writes (x : Src8) (s : State) : writesOf (srcRead x s).bus = writesOf s.bus := by
  cases x with
  | reg r | imm v => rfl
  | ind => exact s.memRead_writes s.hl

/-! A rule's writes, in memory and on the bus. -/

/-- From `s` to `t` one byte is written at each of `addrs`, in order, and no other: behind the contract and on the bus
(R50, R56). -/
def StoresAt (addrs : List Word) (s t : State) : Prop :=
  Memory.Written addrs s.mem t.mem ∧ writesOf t.bus = writesOf s.bus ++ addrs

/-- Whether writes were made depends on memory and the bus alone. -/
theorem storesAt_congr {addrs : List Word} {s t u : State} (hmem : u.mem = t.mem) (hbus : u.bus = t.bus) :
    StoresAt addrs s u ↔ StoresAt addrs s t := by
  rw [StoresAt, StoresAt, hmem, hbus]

theorem storesAt_nil {s t : State} (hmem : t.mem = s.mem) (hwrites : writesOf t.bus = writesOf s.bus) :
    StoresAt [] s t := by
  rw [StoresAt, hmem, hwrites, List.append_nil]
  exact ⟨.nil _, rfl⟩

theorem storesAt_memWrite (s : State) (addr : Word) (v : Byte) : StoresAt [addr] s (s.memWrite addr v) :=
  ⟨.cons (.nil _), writesOf_append _ _⟩

/-- A push stores the high byte first (R57). -/
theorem storesAt_push16 (s : State) (v : Word) : StoresAt [s.sp - 1, s.sp - 2] s (s.push16 v) := by
  rw [State.push16_eq]
  exact ⟨.cons (.cons (.nil _)), writesOf_append _ _⟩

theorem storesAt_call (s : State) (target : Word) : StoresAt [s.sp - 1, s.sp - 2] s (s.call target) :=
  storesAt_push16 s s.pc

/-- A 16-bit write stores the low byte first (R59). -/
theorem storesAt_write16 (s : State) (addr v : Word) : StoresAt [addr, addr + 1] s (s.write16 addr v) := by
  rw [State.write16_eq]
  exact ⟨.cons (.cons (.nil _)), writesOf_append _ _⟩

/-- The address a target operand is stored to: a register has none (R140). -/
def targetStores (t : Target8) (s : State) : List Word :=
  match t with
  | .reg _ => []
  | .ind => [s.hl]

/-- A target operand read, then written: one write at `HL`, or none (R140). -/
theorem storesAt_target (s : State) (t : Target8) (v : Byte) :
    StoresAt (targetStores t s) s ((s.readTarget t).2.writeTarget t v) := by
  cases t with
  | reg r => exact storesAt_nil (s.setReg8_mem r v) (congrArg writesOf (s.setReg8_bus r v))
  | ind =>
    obtain ⟨hmem, hwrites⟩ := storesAt_memWrite (s.memRead s.hl).2 s.hl v
    rw [State.memRead_writes] at hwrites
    exact ⟨hmem, hwrites⟩

/-- The condition table of R170 is the model's `Cond`. -/
theorem holds_eq_cond (s : State) (cc : Cond) : holds s cc = s.cond cc := by
  cases cc with
  | nz | nc => exact beq_false _
  | z | c => exact beq_true _

/-! The store addresses of the rows, by rule. -/

theorem storeAddrs_alu (op : AluOp) (x : Src8) (s : State) : storeAddrs (.alu op x) s = [] := by
  cases x with
  | reg r => cases op <;> cases r <;> rfl
  | ind => cases op <;> rfl
  | imm v => cases op <;> rfl

theorem storeAddrs_inc8 (t : Target8) (s : State) : storeAddrs (.inc8 t) s = targetStores t s := by
  cases t with
  | reg r => cases r <;> rfl
  | ind => rfl

theorem storeAddrs_dec8 (t : Target8) (s : State) : storeAddrs (.dec8 t) s = targetStores t s := by
  cases t with
  | reg r => cases r <;> rfl
  | ind => rfl

/-- A secondary row stores only where its selector is wired (R84). -/
theorem storeAddrs_rot (kind : RotKind) (t : Target8) (s : State) :
    storeAddrs (.rot kind t) s =
      if s.cfg.implements (opByte 0 (rotCode kind) (targetCode t)) then targetStores t s else [] := by
  cases t with
  | reg r => cases kind <;> exact (ite_self _).symm
  | ind => cases kind <;> rfl

theorem storeAddrs_res (b : BitVec 3) (t : Target8) (s : State) :
    storeAddrs (.res b t) s = if s.cfg.implements (opByte 2 b (targetCode t)) then targetStores t s else [] := by
  cases t with
  | reg r => exact (ite_self _).symm
  | ind =>
    have h : 0x86 + 8 * b.setWidth 8 = opByte 2 b (targetCode .ind) := by revert b; decide
    rw [← h]
    rfl

theorem storeAddrs_set (b : BitVec 3) (t : Target8) (s : State) :
    storeAddrs (.set b t) s = if s.cfg.implements (opByte 3 b (targetCode t)) then targetStores t s else [] := by
  cases t with
  | reg r => exact (ite_self _).symm
  | ind =>
    have h : 0xC6 + 8 * b.setWidth 8 = opByte 3 b (targetCode .ind) := by revert b; decide
    rw [← h]
    rfl

theorem storeAddrs_callIf (cc : Cond) (a16 : Word) (s : State) :
    storeAddrs (.callIf cc a16) s = if s.cond cc then [s.sp - 1, s.sp - 2] else [] := by
  rw [← holds_eq_cond]
  cases cc <;> rfl

theorem storeAddrs_rst (y : Fin 8) (s : State) : storeAddrs (.rst y) s = [s.sp - 1, s.sp - 2] := by
  fin_cases y <;> rfl

theorem storeAddrs_push (q : StackReg) (s : State) : storeAddrs (.push q) s = [s.sp - 1, s.sp - 2] := by
  cases q <;> rfl

theorem storeAddrs_ldStore (src : Reg8) (s : State) : storeAddrs (.ldStore src) s = [s.hl] := by
  cases src <;> rfl

/-! The rules, by their store addresses. -/

/-- A row with no store address: memory and the writes on the bus stay. -/
theorem ensures_storesAt_nil {i : Instr} {s : State} {r : Result} (haddrs : storeAddrs i s = [])
    (h : Ensures r fun t => t.mem = s.mem ∧ writesOf t.bus = writesOf s.bus) :
    Ensures r (StoresAt (storeAddrs i s) s) := by
  intro t ht
  obtain ⟨hmem, hwrites⟩ := h t ht
  rw [haddrs]
  exact storesAt_nil hmem hwrites

/-- A secondary row with target `t`: where its selector is wired it stores to the target, else it latches its fault
(R84, R140). -/
theorem ensures_storesAt_onWired {i : Instr} {s : State} {op2 : Byte} {t : Target8} {rule : State → State}
    (haddrs : storeAddrs i s = if s.cfg.implements op2 then targetStores t s else [])
    (h : StoresAt (targetStores t s) s (rule s)) : Ensures (onWired op2 rule s) (StoresAt (storeAddrs i s) s) := by
  rw [haddrs, ensures_onWired]
  refine ⟨fun hw => ?_, fun hw => ?_⟩
  · rwa [if_pos hw]
  · rw [hw]
    exact storesAt_nil rfl rfl

/-- A row stores to its store addresses, in order, and nowhere else (R56, R57, R59). -/
theorem exec_storesAt {i : Instr} (hwf : i.wf = true) (s : State) :
    Ensures (exec i s) (StoresAt (storeAddrs i s) s) := by
  cases i.row with
  | prefix_CB => cases hwf
  | inc8 t =>
    rw [exec_inc8, ensures_next, storeAddrs_inc8]
    exact (storesAt_congr rfl rfl).2 (storesAt_target s t _)
  | dec8 t =>
    rw [exec_dec8, ensures_next, storeAddrs_dec8]
    exact (storesAt_congr rfl rfl).2 (storesAt_target s t _)
  | rot kind t =>
    rw [exec_rot]
    exact ensures_storesAt_onWired (storeAddrs_rot kind t s) ((storesAt_congr rfl rfl).2 (storesAt_target s t _))
  | res b t =>
    rw [exec_res]
    exact ensures_storesAt_onWired (storeAddrs_res b t s) (storesAt_target s t _)
  | set b t =>
    rw [exec_set]
    exact ensures_storesAt_onWired (storeAddrs_set b t s) (storesAt_target s t _)
  | call_a16 a16 => exact ensures_next.2 (storesAt_call s a16)
  | callIf cc a16 =>
    rw [exec_callIf, ensures_branchIf, storeAddrs_callIf]
    refine ⟨fun h => ?_, fun h => ?_⟩
    · rw [if_pos h]
      exact (storesAt_congr rfl rfl).2 (storesAt_call s a16)
    · rw [h]
      exact storesAt_nil rfl rfl
  | rst y =>
    rw [exec_rst, ensures_next, storeAddrs_rst]
    exact storesAt_call s _
  | push q =>
    rw [exec_push, ensures_next, storeAddrs_push]
    exact storesAt_push16 s _
  | ldStore src =>
    rw [exec_ldStore, ensures_next, storeAddrs_ldStore]
    exact storesAt_memWrite s s.hl _
  | ld_ma16_SP a16 => exact ensures_next.2 (storesAt_write16 s a16 s.sp)
  | ld_mHL_d8 | ld_mBC_A | ld_mDE_A | ldh_ma8_A | ld_mC_A | ld_ma16_A =>
    exact ensures_next.2 (storesAt_memWrite s _ _)
  | ld_mHLi_A | ld_mHLd_A => exact ensures_next.2 ((storesAt_congr rfl rfl).2 (storesAt_memWrite s s.hl s.a))
  | alu op x => exact ensures_storesAt_nil (storeAddrs_alu op x s) (by simp)
  | bit b t => exact ensures_storesAt_nil (by cases t <;> rfl) (by simp [State.testBit])
  | illegal k => exact ensures_storesAt_nil (by fin_cases k <;> rfl) (by simp)
  | inc16 p | dec16 p | addHl p | ldImm16 p => exact ensures_storesAt_nil (by cases p <;> rfl) (by simp)
  | jrIf cc | jpIf cc | retIf cc => exact ensures_storesAt_nil (by cases cc <;> rfl) (by simp)
  | ldReg dst src => exact ensures_storesAt_nil (by cases dst <;> cases src <;> rfl) (by simp)
  | ldImm r | ldLoad r => exact ensures_storesAt_nil (by cases r <;> rfl) (by simp)
  | pop q => exact ensures_storesAt_nil (by cases q <;> rfl) (by simp)
  | stop => exact ensures_storesAt_nil rfl (by cases h : s.cfg.stopTwoBytes <;> simp [h])
  | ei => exact ensures_storesAt_nil rfl (by cases h : s.cfg.eiDelay <;> cases h' : s.ime <;> simp [h, h'])
  | nop | halt | di => exact ensures_storesAt_nil rfl (by simp)
  | daa | cpl | scf | ccf => exact ensures_storesAt_nil rfl (by simp)
  | rlca | rrca | rla | rra => exact ensures_storesAt_nil rfl (by simp [rotateA_eq])
  | add_SP_e8 | ld_HL_SPe8 | ld_SP_HL => exact ensures_storesAt_nil rfl (by simp)
  | jr_e8 | jp_a16 | jp_HL | ret | reti => exact ensures_storesAt_nil rfl (by simp)
  | ld_A_mBC | ld_A_mDE | ldh_A_ma8 | ld_A_mC | ld_A_ma16 =>
    exact ensures_storesAt_nil rfl (by simp [loadAFrom_eq])
  | ld_A_mHLi | ld_A_mHLd => exact ensures_storesAt_nil rfl (by simp [loadAHlStep_eq])

end Sys2Proof.Machine
end

section
/-! The memory: O50 and O56. -/

namespace Sys2Proof.Machine

/-- Canonical memory is kept by every part of a move: a rule writes at its store addresses, `Divert` pushes (R251), another
component writes a byte (R62), and nothing else touches memory. -/
theorem memoryCanonical_moveInvariant : MoveInvariant State.MemoryCanonical where
  beginMove _ _ hs := hs
  beginStep _ hs := hs
  fetch s _ hs := by
    obtain ⟨pc, bus, hfetch⟩ := s.fetch_state
    rw [hfetch]
    exact hs
  exec _ s t hwf _ hs h :=
    have ⟨hmem, _⟩ := exec_storesAt hwf s t h
    hmem.wf hs
  endStep s pend cost hs := by
    obtain ⟨_, _, _, _, _, hend⟩ := s.endStep_frame pend cost
    rw [hend]
    exact hs
  idleStep _ hs := hs
  resume _ hs := hs
  divert s _ _ _ hs := State.push16_memory_wf hs s.pc
  reset _ _ _ hs := hs
  memoryChange _ addr v hs := Memory.wf_write hs addr v

/-- Settles O50: each part of a move keeps the canonical form, the rules by the writes they make. -/
theorem memoryStaysCanonical : Obligations.MemoryStaysCanonical :=
  fun _ _ hs h => memoryCanonical_moveInvariant.step hs h

/-- Settles O56: a row writes at its store addresses in order, and a write leaves every other address alone. -/
theorem memoryFrame : Obligations.MemoryFrame := by
  intro i s t hwf h
  obtain ⟨hmem, hbus⟩ := exec_storesAt hwf s t h
  exact ⟨fun _ haddr => hmem.read_other haddr, hbus⟩

end Sys2Proof.Machine
end

section
/-! The stack: O59. -/

namespace Sys2Proof.Machine

/-! The stack moves leave every pair alone, and a pop leaves memory alone (R57, R58). -/

@[simp] theorem State.stackReg_push16 (s : State) (v : Word) (q : StackReg) :
    (s.push16 v).stackReg q = s.stackReg q := by
  cases q <;> simp [State.stackReg, State.bc, State.de, State.hl, State.af]

@[simp] theorem State.stackReg_pop16 (s : State) (q : StackReg) : s.pop16.2.stackReg q = s.stackReg q := by
  cases q <;> simp [State.stackReg, State.bc, State.de, State.hl, State.af]

@[simp] theorem State.peek_pop16 (s : State) (addr : Word) : s.pop16.2.peek addr = s.peek addr := rfl

/-- A pop reads back what was pushed, whatever `SP`, wrap included (R57, R58). -/
theorem State.pop16_push16_value {s : State} (h : s.MemoryCanonical) (v : Word) : (s.push16 v).pop16.1 = v := by
  have hsp : s.sp - 2 + 1 = s.sp - 1 := by bv_omega
  rw [State.pop16_eq, State.push16_sp, hsp, State.peek_push16_high h, State.peek_push16_low h, word_hi_lo]

/-- A byte whose low nibble is 0 keeps its value when that nibble is forced to 0 (R25). -/
theorem and_highNibble_of_lowNibble {v : Byte} (h : v &&& 0x0F = 0) : v &&& 0xF0 = v := by
  revert v; decide

/-- Writing a pair with its own value changes nothing; `AF` is written with the low nibble of `F` at 0 (R22, R25). -/
theorem State.setStackReg_of_eq {s : State} {q : StackReg} {v : Word} (hv : s.stackReg q = v)
    (h : q = .af → s.FlagLowNibbleZero) : s.setStackReg q v = s := by
  subst hv
  cases q with
  | bc => simp [State.setStackReg, State.setBc, State.stackReg, State.bc]
  | de => simp [State.setStackReg, State.setDe, State.stackReg, State.de]
  | hl => simp [State.setStackReg, State.setHl, State.stackReg, State.hl]
  | af =>
    have hf := and_highNibble_of_lowNibble (h rfl)
    simp only [State.setStackReg, State.setAf, State.stackReg, State.af, hiByte_word, loByte_word, hf]

/-- After `PUSH qq`, `POP qq` is a pop alone: the pair is written with the value it has (R211 to R214). -/
theorem exec_pop_push {s : State} {q : StackReg} (hm : s.MemoryCanonical) (hf : q = .af → s.FlagLowNibbleZero) :
    exec (.pop q) (s.push16 (s.stackReg q)) = .next (s.push16 (s.stackReg q)).pop16.2 := by
  have hvalue : (s.push16 (s.stackReg q)).pop16.2.stackReg q = s.stackReg q := by
    rw [State.stackReg_pop16, State.stackReg_push16]
  have hflags : q = .af → (s.push16 (s.stackReg q)).pop16.2.FlagLowNibbleZero := by
    simpa only [State.FlagLowNibbleZero, State.pop16_f, State.push16_f] using hf
  rw [exec_pop, State.pop16_push16_value hm, State.setStackReg_of_eq hvalue hflags]

/-- Settles O59: the pop reads back the two bytes pushed, and the pair is written with the value it has. -/
theorem stackRoundTrip : Obligations.StackRoundTrip := by
  intro s q hm hf
  refine ⟨_, _, exec_push q s, exec_pop_push hm hf, ?_, ?_, fun r => ?_, ?_, ?_⟩
  · rw [State.pop16_sp, State.push16_sp, BitVec.sub_add_cancel]
  · rw [State.pop16_f, State.push16_f]
  · rw [State.reg8_pop16, State.reg8_push16]
  · exact (State.peek_pop16 _ _).trans (State.peek_push16_high hm _)
  · exact (State.peek_pop16 _ _).trans (State.peek_push16_low hm _)

end Sys2Proof.Machine
end

section
/-! The encoding: O41 and O42. -/

namespace Sys2Proof

/-- The bytes of `i` have the length their first byte fixes, and the decoder reads `i` from them. -/
def Instr.RoundTrips (i : Instr) : Prop :=
  (encode i).length = instrLength ((encode i).headD 0) ∧
    decodeBytes ((encode i).headD 0) ((encode i).getD 1 0) ((encode i).getD 2 0) = i

theorem Instr.roundTrips_of_bytes {i : Instr} {b1 : Byte} {operands : List Byte} (hbytes : encode i = b1 :: operands)
    (hlen : operands.length + 1 = instrLength b1)
    (hread : decodeBytes b1 (operands.getD 0 0) (operands.getD 1 0) = i) : i.RoundTrips := by
  rw [Instr.RoundTrips, hbytes]
  exact ⟨hlen, hread⟩

/-- A row with a 16-bit operand `v` is read back from its opcode byte and the bytes of `v`, low byte first (R72). -/
theorem Instr.roundTrips_of_word {row : Word → Instr} {b1 : Byte} {v : Word}
    (hbytes : encode (row v) = [b1, loByte v, hiByte v]) (hlen : 3 = instrLength b1)
    (hread : decodeBytes b1 (loByte v) (hiByte v) = row (word (hiByte v) (loByte v))) : (row v).RoundTrips :=
  roundTrips_of_bytes hbytes hlen (hread.trans (congrArg row (word_hi_lo v)))

/-- A secondary row is read back from its selector (R79, R87). -/
theorem Instr.roundTrips_of_selector {i : Instr} {op2 : Byte} (hbytes : encode i = [0xCB, op2])
    (hread : secondaryTable op2 = i) : i.RoundTrips :=
  roundTrips_of_bytes hbytes (by decide : 2 = instrLength 0xCB) hread

@[simp] theorem rotOfCode_rotCode (kind : RotKind) : rotOfCode (Machine.rotCode kind) = kind := by cases kind <;> rfl

/-! The secondary rows as bytes: the escape, then the selector made of the row's operand fields (R79). -/

theorem encode_rot (kind : RotKind) (t : Target8) :
    encode (.rot kind t) = [0xCB, opByte 0 (Machine.rotCode kind) (targetCode t)] := by
  cases kind <;> cases t <;> rfl

theorem encode_bit (b : BitVec 3) (t : Target8) : encode (.bit b t) = [0xCB, opByte 1 b (targetCode t)] := by
  cases t <;> rfl

theorem encode_res (b : BitVec 3) (t : Target8) : encode (.res b t) = [0xCB, opByte 2 b (targetCode t)] := by
  cases t <;> rfl

theorem encode_set (b : BitVec 3) (t : Target8) : encode (.set b t) = [0xCB, opByte 3 b (targetCode t)] := by
  cases t <;> rfl

/-- The selector of a group `x` and its operand fields is read by the field (R79). -/
theorem secondaryTable_opByte (x : BitVec 2) (y z : BitVec 3) :
    secondaryTable (opByte x y z) = pick4 x (.rot (rotOfCode y) (targetOfCode z)) (.bit y (targetOfCode z))
      (.res y (targetOfCode z)) (.set y (targetOfCode z)) := by
  simp only [secondaryTable, fieldX_opByte, fieldY_opByte, fieldZ_opByte]

/-- Every row but the escape is read back from its bytes, rule by rule (R70 to R80). -/
theorem Instr.roundTrips {i : Instr} (hwf : i.wf = true) : i.RoundTrips := by
  cases i.row with
  | prefix_CB => cases hwf
  | rot kind t => exact roundTrips_of_selector (encode_rot kind t) (by simp [secondaryTable_opByte, pick4])
  | bit b t => exact roundTrips_of_selector (encode_bit b t) (by simp [secondaryTable_opByte, pick4])
  | res b t => exact roundTrips_of_selector (encode_res b t) (by simp [secondaryTable_opByte, pick4])
  | set b t => exact roundTrips_of_selector (encode_set b t) (by simp [secondaryTable_opByte, pick4])
  | alu op x =>
    cases x with
    | reg r => cases op <;> cases r <;> exact roundTrips_of_bytes rfl rfl rfl
    | ind | imm => cases op <;> exact roundTrips_of_bytes rfl rfl rfl
  | inc8 t | dec8 t =>
    cases t with
    | reg r => cases r <;> exact roundTrips_of_bytes rfl rfl rfl
    | ind => exact roundTrips_of_bytes rfl rfl rfl
  | jpIf cc a16 | callIf cc a16 => cases cc <;> exact roundTrips_of_word rfl rfl rfl
  | ldImm16 p d16 => cases p <;> exact roundTrips_of_word rfl rfl rfl
  | jp_a16 | call_a16 | ld_A_ma16 | ld_ma16_A | ld_ma16_SP => exact roundTrips_of_word rfl rfl rfl
  | inc16 p | dec16 p | addHl p => cases p <;> exact roundTrips_of_bytes rfl rfl rfl
  | jrIf cc | retIf cc => cases cc <;> exact roundTrips_of_bytes rfl rfl rfl
  | illegal k => fin_cases k <;> exact roundTrips_of_bytes rfl rfl rfl
  | rst y => fin_cases y <;> exact roundTrips_of_bytes rfl rfl rfl
  | ldReg dst src => cases dst <;> cases src <;> exact roundTrips_of_bytes rfl rfl rfl
  | ldImm r | ldLoad r | ldStore r => cases r <;> exact roundTrips_of_bytes rfl rfl rfl
  | push q | pop q => cases q <;> exact roundTrips_of_bytes rfl rfl rfl
  | _ => exact roundTrips_of_bytes rfl rfl rfl

/-- What the decoder answers on a string that begins with `b1`: the instruction of the first three bytes, when the string
is as long as `b1` asks (R70, R96). -/
theorem decode_cons_iff {b1 : Byte} {tail rest : List Byte} {i : Instr} :
    decode (b1 :: tail) = .ok (i, rest) ↔
      instrLength b1 ≤ tail.length + 1 ∧ decodeBytes b1 (tail.getD 0 0) (tail.getD 1 0) = i ∧
        tail.drop (instrLength b1 - 1) = rest := by
  rw [decode]
  split
  · next h => simp only [reduceCtorEq, Nat.not_le.2 h, false_and]
  · next h => simp only [Except.ok.injEq, Prod.mk.injEq, Nat.not_lt.1 h, true_and]

/-- Bytes that hold exactly one instruction decode to it, whatever follows them. -/
theorem decode_append {bytes : List Byte} (hlen : bytes.length = instrLength (bytes.headD 0)) (rest : List Byte) :
    decode (bytes ++ rest) = .ok (decodeBytes (bytes.headD 0) (bytes.getD 1 0) (bytes.getD 2 0), rest) := by
  match bytes, hlen with
  | [], hlen => exact absurd hlen (by decide)
  | [b1], hlen => exact (decode_one hlen.symm rest).trans (by rw [decodeBytes_one hlen.symm]; rfl)
  | [b1, b2], hlen => exact (decode_two hlen.symm b2 rest).trans (by rw [decodeBytes_two hlen.symm]; rfl)
  | [b1, b2, b3], hlen => exact decode_three hlen.symm b2 b3 rest
  | b1 :: b2 :: b3 :: b4 :: bytes, hlen =>
    have := instrLength_cases b1
    simp only [List.length_cons, List.headD_cons] at hlen
    omega

/-- Settles O41: every row has the length its first byte fixes and is read back from its bytes. -/
theorem decodeOfEncode : Obligations.DecodeOfEncode := by
  intro i rest hwf
  obtain ⟨hlen, hread⟩ := Instr.roundTrips hwf
  refine ⟨?_, hlen, ?_⟩
  · rw [decode_append hlen, hread]
  · have := instrLength_cases ((encode i).headD 0)
    omega

/-! What the decoder reads, as bytes. The primary table is looked at entry by entry: its first bytes do not depend on
the operand bytes, and its operands are the operand bytes as they stand. -/

theorem pick8_same {α : Type} (k : BitVec 3) (a : α) : pick8 k a a a a a a a a = a := by
  unfold pick8; split <;> rfl

theorem pick4_same {α : Type} (k : BitVec 2) (a : α) : pick4 k a a a a = a := by
  unfold pick4; split <;> rfl

theorem encode_secondaryTable (op2 : Byte) : encode (secondaryTable op2) = [0xCB, op2] := by
  revert op2; decide

/-- The first byte of an entry of the primary table is its code point. -/
theorem encode_primaryTable_head (b1 b2 b3 : Byte) : (encode (primaryTable b1 b2 b3)).headD 0 = b1 := by
  have hoperands : (encode (primaryTable b1 b2 b3)).headD 0 = (encode (primaryTable b1 0 0)).headD 0 := by
    simp only [primaryTable, quadrant0, quadrant3, apply_pick4 fun i => (encode i).headD 0,
      apply_pick8 fun i => (encode i).headD 0]
    rfl
  have htable : ∀ b : Byte, (encode (primaryTable b 0 0)).headD 0 = b := by decide
  rw [hoperands, htable]

/-- The bytes after the first are the operand bytes, in order (R72). -/
theorem encode_primaryTable_tail (b1 b2 b3 : Byte) : (encode (primaryTable b1 b2 b3)).tail <+: [b2, b3] := by
  apply of_eq_true
  simp only [primaryTable, quadrant0, quadrant1, quadrant2, quadrant3, apply_pick4 fun i => (encode i).tail <+: [b2, b3],
    apply_pick8 fun i => (encode i).tail <+: [b2, b3]]
  simp [encode, pick8_same, pick4_same]

/-- The decoder answers the instruction whose first byte it was given. -/
theorem encode_decodeBytes_head (b1 b2 b3 : Byte) : (encode (decodeBytes b1 b2 b3)).headD 0 = b1 := by
  unfold decodeBytes
  split
  · next h => rw [encode_secondaryTable, h, List.headD_cons]
  · exact encode_primaryTable_head b1 b2 b3

theorem encode_decodeBytes_tail (b1 b2 b3 : Byte) : (encode (decodeBytes b1 b2 b3)).tail <+: [b2, b3] := by
  unfold decodeBytes
  split
  · exact encode_secondaryTable b2 ▸ ⟨[b3], rfl⟩
  · exact encode_primaryTable_tail b1 b2 b3

/-- The bytes of what the decoder answers are those it was given, as many as the first asks for: no bit of them is
ignored (R70, R85). -/
theorem encode_decodeBytes (b1 b2 b3 : Byte) : encode (decodeBytes b1 b2 b3) = [b1, b2, b3].take (instrLength b1) := by
  obtain ⟨hlen, -⟩ := Instr.roundTrips (decodeBytes_wf b1 b2 b3)
  have hhead := encode_decodeBytes_head b1 b2 b3
  have htail := encode_decodeBytes_tail b1 b2 b3
  have hprefix : encode (decodeBytes b1 b2 b3) <+: [b1, b2, b3] := by
    cases hbytes : encode (decodeBytes b1 b2 b3) with
    | nil => exact List.nil_prefix
    | cons c operands =>
      rw [hbytes] at hhead htail
      exact List.cons_prefix_cons.2 ⟨hhead, htail⟩
  rw [List.prefix_iff_eq_take.1 hprefix, hlen, hhead]

/-- Settles O42: the decoder answers the instruction of the bytes it takes, and rejects only a string too short. -/
theorem encodeOfDecode : Obligations.EncodeOfDecode := by
  refine ⟨fun bs i rest h => ?_, fun b1 tail hlen => ⟨_, _, decode_cons_iff.2 ⟨hlen, rfl, rfl⟩⟩⟩
  cases bs with
  | nil => cases h
  | cons b1 tail =>
    obtain ⟨hlen, rfl, rfl⟩ := decode_cons_iff.1 h
    refine ⟨decodeBytes_wf _ _ _, ?_⟩
    rw [encode_decodeBytes]
    rcases instrLength_cases b1 with hn | hn | hn <;> rw [hn] at hlen ⊢
    · rfl
    · match tail, hlen with
      | b2 :: tail, _ => rfl
    · match tail, hlen with
      | b2 :: b3 :: tail, _ => rfl

end Sys2Proof
end

section
/-! What a rule does to the outcome, the latch and time, row by row. -/

namespace Sys2Proof.Machine

open Sys2Proof.Claims

/-- Every rule answers a next state (R245). -/
theorem exec_completes {i : Instr} (hwf : i.wf = true) (s : State) : ∃ t, exec i s = .next t := by
  cases i.row with
  | prefix_CB => cases hwf
  | rot | bit | res | set => simp [onWired]
  | jrIf | jpIf | callIf | retIf => simp [branchIf]
  | rlca | rrca | rla | rra => simp [rotateA_eq]
  | ld_A_mBC | ld_A_mDE | ldh_A_ma8 | ld_A_mC | ld_A_ma16 => simp [loadAFrom_eq]
  | ld_A_mHLi | ld_A_mHLd | ld_mHLi_A | ld_mHLd_A => simp [loadAHlStep_eq, storeAHlStep_eq]
  | _ => simp

/-! The accumulator operations and the read of a source operand touch neither the latch nor time. -/

@[simp] theorem srcRead_fault (x : Src8) (s : State) : (srcRead x s).fault = s.fault := by cases x <;> rfl

@[simp] theorem srcRead_ticks (x : Src8) (s : State) : (srcRead x s).ticks = s.ticks := by cases x <;> rfl

@[simp] theorem srcRead_extra (x : Src8) (s : State) : (srcRead x s).extra = s.extra := by cases x <;> rfl

@[simp] theorem State.alu_fault (s : State) (op : AluOp) (v : Byte) : (s.alu op v).fault = s.fault := by
  cases h : writesA op <;> simp [State.alu_eq, h]

@[simp] theorem State.alu_ticks (s : State) (op : AluOp) (v : Byte) : (s.alu op v).ticks = s.ticks := by
  cases h : writesA op <;> simp [State.alu_eq, h]

@[simp] theorem State.alu_extra (s : State) (op : AluOp) (v : Byte) : (s.alu op v).extra = s.extra := by
  cases h : writesA op <;> simp [State.alu_eq, h]

/-- Only a conditional transfer writes `ticks` or the surcharge (R89, R171). -/
theorem exec_time {i : Instr} (hwf : i.wf = true) (hi : ¬ isConditional i) (s : State) :
    Ensures (exec i s) fun t => t.ticks = s.ticks ∧ t.extra = s.extra := by
  cases i.row with
  | prefix_CB => cases hwf
  | jrIf cc e8 => exact absurd ⟨cc, .inl ⟨e8, rfl⟩⟩ hi
  | jpIf cc a16 => exact absurd ⟨cc, .inr (.inl ⟨a16, rfl⟩)⟩ hi
  | callIf cc a16 => exact absurd ⟨cc, .inr (.inr (.inl ⟨a16, rfl⟩))⟩ hi
  | retIf cc => exact absurd ⟨cc, .inr (.inr (.inr rfl))⟩ hi
  | rot | bit | res | set => simp [State.rotOp, State.testBit, State.clearBit, State.raiseBit]
  | stop => cases h : s.cfg.stopTwoBytes <;> simp [h]
  | ei => cases h : s.cfg.eiDelay <;> cases h' : s.ime <;> simp [h, h']
  | rlca | rrca | rla | rra => simp [rotateA_eq]
  | ld_A_mBC | ld_A_mDE | ldh_A_ma8 | ld_A_mC | ld_A_ma16 => simp [loadAFrom_eq]
  | ld_A_mHLi | ld_A_mHLd | ld_mHLi_A | ld_mHLd_A => simp [loadAHlStep_eq, storeAHlStep_eq]
  | _ => simp

/-- A row that cannot fault leaves the latch as it was (R83, R84, R245). -/
theorem exec_fault {i : Instr} (hi : canFault i = false) (s : State) : Ensures (exec i s) fun t => t.fault = s.fault := by
  cases i.row with
  | prefix_CB => cases hi
  | illegal k => fin_cases k <;> cases hi
  | rot kind t => cases kind <;> cases t <;> cases hi
  | bit b t | res b t | set b t => cases t <;> cases hi
  | stop => cases h : s.cfg.stopTwoBytes <;> simp [h]
  | ei => cases h : s.cfg.eiDelay <;> cases h' : s.ime <;> simp [h, h']
  | rlca | rrca | rla | rra => simp [rotateA_eq]
  | ld_A_mBC | ld_A_mDE | ldh_A_ma8 | ld_A_mC | ld_A_ma16 => simp [loadAFrom_eq]
  | ld_A_mHLi | ld_A_mHLd | ld_mHLi_A | ld_mHLd_A => simp [loadAHlStep_eq, storeAHlStep_eq]
  | _ => simp

/-! The rows that fault, by their bytes. -/

@[simp] theorem rotCode_rotOfCode (k : BitVec 3) : rotCode (rotOfCode k) = k := by
  revert k; decide

/-- A selector runs its rule where it is wired and latches its fault where it is not; the rule itself never faults (R84,
R228). -/
theorem exec_secondaryTable (op2 : Byte) :
    ∃ rule : State → State, (∀ s, (rule s).fault = s.fault) ∧
      ∀ s, exec (secondaryTable op2) s = onWired op2 rule s := by
  obtain ⟨x, y, z, rfl⟩ : ∃ x y z, opByte x y z = op2 := ⟨_, _, _, opByte_fields op2⟩
  rw [secondaryTable_opByte]
  match x with
  | 0 => exact ⟨(·.rotOp (rotOfCode y) (targetOfCode z)), by simp [State.rotOp], by simp [pick4]⟩
  | 1 => exact ⟨(·.testBit y (targetOfCode z)), by simp [State.testBit], by simp [pick4]⟩
  | 2 => exact ⟨(·.clearBit y (targetOfCode z)), by simp [State.clearBit], by simp [pick4]⟩
  | 3 => exact ⟨(·.raiseBit y (targetOfCode z)), by simp [State.raiseBit], by simp [pick4]⟩

end Sys2Proof.Machine
end

section
/-! The step of a ready core: O33, O34 and O37. -/

namespace Sys2Proof.Machine

open Sys2Proof.Claims

/-- The instruction a ready core runs next: that of the three bytes at `PC`. -/
def State.nextInstr (s : State) : Instr := decodeBytes (s.peek s.pc) (s.peek (s.pc + 1)) (s.peek (s.pc + 2))

/-- The state its rule starts from: the bytes of that instruction fetched (R28, R86). -/
def State.ruleStart (s : State) : State := fetchedState s (instrLength (s.peek s.pc))

/-- The base cost of its step (R88, R90). -/
def State.nextCost (s : State) : Nat := chargedCost s.cfg (s.peek s.pc) (s.peek (s.pc + 1))

theorem State.nextInstr_wf (s : State) : s.nextInstr.wf = true := decodeBytes_wf _ _ _

/-- The three bytes at `PC` decode to the next instruction, and to no other. -/
theorem decode_bytesAtPc {s : State} {i : Instr} {rest : List Byte} (h : decode (bytesAtPc s) = .ok (i, rest)) :
    s.nextInstr = i :=
  (decode_cons_iff.1 h).2.1

/-- The fetch of a step that has begun leaves the next instruction, and the state its rule starts from (R86). -/
theorem State.fetch_beginStep (s : State) :
    s.beginMove.beginStep.fetch.instr = s.nextInstr ∧ s.beginMove.beginStep.fetch.state = s.ruleStart := by
  rw [State.fetch_eq]
  exact ⟨rfl, rfl⟩

/-- The fetch of a step that has begun leaves the bytes the cost is charged for: an instruction of one byte is not the
escape, so its second byte does not count (R88, R90). -/
theorem State.fetch_beginStep_cost (s : State) :
    chargedCost s.cfg s.beginMove.beginStep.fetch.b1 s.beginMove.beginStep.fetch.b2 = s.nextCost := by
  rw [State.fetch_eq]
  by_cases hcb : s.peek s.pc = 0xCB
  · have hlen : instrLength (s.peek s.pc) ≠ 1 := by rw [hcb]; decide
    exact congrArg (chargedCost s.cfg (s.peek s.pc)) (if_neg hlen)
  · exact (chargedCost_of_ne hcb _ _).trans (chargedCost_of_ne hcb _ _).symm

/-- The step of a ready core: the rule of the next instruction, then the end of the step (R86). -/
theorem step_of_ready {s u : State} (h : Ready s) (hu : exec s.nextInstr s.ruleStart = .next u) :
    step s = .next (u.endStep s.imePending s.nextCost) := by
  obtain ⟨hm, hf, hr⟩ := h
  obtain ⟨hinstr, hstate⟩ := s.fetch_beginStep
  rw [← hinstr, ← hstate] at hu
  rw [step_eq hm, hf, if_pos hr, runStep_eq hu, ← s.fetch_beginStep_cost]
  rfl

/-- The rule of the next instruction of a ready core, and its step (R86, R245). -/
theorem step_ready_cases {s : State} (h : Ready s) :
    ∃ u, exec s.nextInstr s.ruleStart = .next u ∧ step s = .next (u.endStep s.imePending s.nextCost) := by
  obtain ⟨u, hu⟩ := exec_completes s.nextInstr_wf s.ruleStart
  exact ⟨u, hu, step_of_ready h hu⟩

/-- A step of a ready core that answers a next state ran the rule of the next instruction (R86). -/
theorem step_ready_inv {s t : State} (h : Ready s) (ht : step s = .next t) :
    ∃ u, exec s.nextInstr s.ruleStart = .next u ∧ t = u.endStep s.imePending s.nextCost := by
  obtain ⟨u, hu, hstep⟩ := step_ready_cases h
  exact ⟨u, hu, Host.Outcome.next.inj (ht.symm.trans hstep)⟩

theorem State.nextCost_eq (s : State) :
    s.nextCost = if s.peek s.pc = 0xCB then secondaryCost (s.peek (s.pc + 1)) + (if s.cfg.cbPrefixCharged then 4 else 0)
      else primaryCost (s.peek s.pc) := by
  have hescape : primaryCost 0xCB = 4 := by decide
  rw [State.nextCost, chargedCost, hescape]

/-- The state with its step charged and returned (R86, R89). -/
def State.charged (s : State) (cost : Nat) : State :=
  { s with ticks := s.ticks + BitVec.ofNat 32 cost, ret := some (.executed (cost + s.extra)), extra := 0 }

/-- The end of a step that ran its instruction: charged, with the delayed enable (R86, R92). -/
theorem State.finishStep_eq (s : State) (pend : Bool) (cost : Nat) :
    s.finishStep pend cost =
      if s.cfg.eiDelay = true ∧ pend = true ∧ s.imePending = true then
        { s.charged cost with ime := true, imePending := false }
      else s.charged cost := by
  simp only [← Bool.and_eq_true, ← Bool.and_assoc]
  rfl

theorem State.finishStep_ret (s : State) (pend : Bool) (cost : Nat) :
    (s.finishStep pend cost).ret = some (.executed (cost + s.extra)) := by
  rw [State.finishStep_eq]
  split <;> rfl

theorem State.finishStep_ticks (s : State) (pend : Bool) (cost : Nat) :
    (s.finishStep pend cost).ticks = s.ticks + BitVec.ofNat 32 cost := by
  rw [State.finishStep_eq]
  split <;> rfl

/-- Settles O33: the fetch leaves the decoded instruction and its bytes, and the end of the step accounts for them. -/
theorem stepRunsTheDecodedInstruction : Obligations.StepRunsTheDecodedInstruction := by
  intro s i rest h hdecode
  obtain ⟨u, hu, hstep⟩ := step_ready_cases h
  rw [decode_bytesAtPc hdecode] at hu
  rw [hstep, ← State.ruleStart, hu]
  refine congrArg Host.Outcome.next ?_
  split
  · next record hf => rw [State.endStep_of_fault hf]
  · next hf =>
    rw [State.endStep_of_none hf, State.finishStep_eq, State.nextCost_eq]
    rfl

/-- Settles O34: the rule answers a next state, and the end of the step returns `Executed`, or the fault it latched. -/
theorem readyStepCompletes : Obligations.ReadyStepCompletes := by
  intro s h
  obtain ⟨u, -, hstep⟩ := step_ready_cases h
  refine ⟨_, hstep, ?_⟩
  cases hf : u.fault with
  | some record =>
    rw [State.endStep_of_fault hf]
    exact .inr ⟨record, hf, rfl⟩
  | none =>
    rw [State.endStep_of_none hf]
    exact .inl ⟨by simp [hf], _, u.finishStep_ret _ _⟩

/-- The illegal code points are read as the illegal rows, whatever follows (R83). -/
theorem decodeBytes_illegal (k : Fin 11) (b2 b3 : Byte) : decodeBytes (illegalSet.get k) b2 b3 = .illegal k := by
  fin_cases k <;> rfl

theorem instrLength_illegal {b1 : Byte} (h : b1 ∈ illegalSet) : instrLength b1 = 1 := by
  revert h b1; decide

/-- The rule of an illegal code point latches the fault of that byte (R83, R227). -/
theorem exec_decodeBytes_illegal {b1 : Byte} (h : b1 ∈ illegalSet) (b2 b3 : Byte) (s : State) :
    exec (decodeBytes b1 b2 b3) s = .next (s.latchIllegal b1) := by
  obtain ⟨k, rfl⟩ := List.get_of_mem h
  exact (congrArg (exec · s) (decodeBytes_illegal k b2 b3)).trans (exec_illegal k s)

/-- The rule of a selector that is not wired latches the fault of that selector (R84, R228). -/
theorem exec_decodeBytes_unwired {op2 : Byte} {s : State} (h : s.cfg.implements op2 = false) (b3 : Byte) :
    exec (decodeBytes 0xCB op2 b3) s = .next (s.latchUnimplemented op2) := by
  obtain ⟨rule, -, hrule⟩ := exec_secondaryTable op2
  rw [decodeBytes, if_pos rfl, hrule, onWired, h]
  rfl

/-- Settles O37: the rule latches its record and nothing else, and the end of the step returns the record. -/
theorem faultingSteps : Obligations.FaultingSteps := by
  refine ⟨fun s h hmem => ?_, fun s h hcb hwired => ?_⟩
  · rw [step_of_ready h (exec_decodeBytes_illegal hmem _ _ _), State.endStep_of_fault rfl, State.ruleStart,
      instrLength_illegal hmem]
    simp [fetchedState, State.latchIllegal, State.latchFault]
  · have hexec : exec s.nextInstr s.ruleStart = .next (s.ruleStart.latchUnimplemented (s.peek (s.pc + 1))) := by
      rw [State.nextInstr, hcb]
      exact exec_decodeBytes_unwired (s := s.ruleStart) hwired _
    have hlen : instrLength 0xCB = 2 := by decide
    rw [step_of_ready h hexec, State.endStep_of_fault rfl, State.ruleStart, hcb, hlen]
    simp [fetchedState, State.latchUnimplemented, State.latchFault, hcb]

end Sys2Proof.Machine
end

section
/-! The costs of the conditional rows: O38. -/

namespace Sys2Proof.Machine

open Sys2Proof.Claims

/-- The next instruction is one whose first byte stands at `PC`. -/
theorem State.peek_pc_eq (s : State) : s.peek s.pc = (encode s.nextInstr).headD 0 := (encode_decodeBytes_head _ _ _).symm

/-- The step of a primary row costs what the primary table says of its code point (R88). -/
theorem State.nextCost_of_bytes {s : State} {i : Instr} {b1 : Byte} {operands : List Byte} {cost : Nat}
    (hi : s.nextInstr = i) (hbytes : encode i = b1 :: operands) (hcost : b1 ≠ 0xCB ∧ primaryCost b1 = cost) :
    s.nextCost = cost := by
  obtain ⟨hcb, rfl⟩ := hcost
  rw [State.nextCost, State.peek_pc_eq, hi, hbytes, List.headD_cons, chargedCost_of_ne hcb]

/-! The base costs of the conditional rows (R285). -/

theorem State.nextCost_jrIf {s : State} {cc : Cond} {e8 : Byte} (h : s.nextInstr = .jrIf cc e8) : s.nextCost = 8 := by
  cases cc <;> exact State.nextCost_of_bytes h rfl (by decide)

theorem State.nextCost_jpIf {s : State} {cc : Cond} {a16 : Word} (h : s.nextInstr = .jpIf cc a16) : s.nextCost = 12 := by
  cases cc <;> exact State.nextCost_of_bytes h rfl (by decide)

theorem State.nextCost_callIf {s : State} {cc : Cond} {a16 : Word} (h : s.nextInstr = .callIf cc a16) :
    s.nextCost = 12 := by
  cases cc <;> exact State.nextCost_of_bytes h rfl (by decide)

theorem State.nextCost_retIf {s : State} {cc : Cond} (h : s.nextInstr = .retIf cc) : s.nextCost = 8 := by
  cases cc <;> exact State.nextCost_of_bytes h rfl (by decide)

/-- The surcharge of a conditional transfer (R171). -/
def surcharge (cc : Cond) (kind : BranchKind) (s : State) : Nat := if holds s cc then takenExtra kind else 0

/-- A conditional transfer writes `ticks` and `extra` by its surcharge alone, when the transfer itself writes neither. -/
theorem branchIf_surcharge {cc : Cond} {kind : BranchKind} {transfer : State → State} {s : State}
    (htransfer : (transfer s).ticks = s.ticks ∧ (transfer s).extra = s.extra ∧ (transfer s).fault = s.fault) :
    ∃ u, branchIf cc kind transfer s = .next u ∧ u.ticks = s.ticks + BitVec.ofNat 32 (surcharge cc kind s) ∧
      u.extra = s.extra + surcharge cc kind s ∧ u.fault = s.fault := by
  obtain ⟨hticks, hextra, hfault⟩ := htransfer
  refine ⟨_, rfl, ?_⟩
  rw [surcharge, holds_eq_cond]
  split
  · rw [State.takeBranch_fault, hfault, State.takeBranch, State.addTicks, hticks, hextra]
    exact ⟨rfl, rfl, rfl⟩
  · exact ⟨(BitVec.add_zero _).symm, rfl, rfl⟩

/-- What a step that does not fault returns and adds to `ticks` (R86, R89). -/
theorem step_charges {s u : State} (h : Ready s) (hu : exec s.nextInstr s.ruleStart = .next u) (hf : u.fault = none) :
    ∃ t, step s = .next t ∧ t.ret = some (.executed (s.nextCost + u.extra)) ∧
      t.ticks = u.ticks + BitVec.ofNat 32 s.nextCost := by
  refine ⟨_, step_of_ready h hu, ?_⟩
  rw [State.endStep_of_none hf]
  exact ⟨u.finishStep_ret _ _, u.finishStep_ticks _ _⟩

/-- The step of a conditional row: its base cost, and its surcharge where the condition holds (R89). -/
theorem step_of_branch {s : State} {cc : Cond} {kind : BranchKind} {transfer : State → State} {base : Nat} (h : Ready s)
    (hcost : s.nextCost = base) (hexec : exec s.nextInstr s.ruleStart = branchIf cc kind transfer s.ruleStart)
    (htransfer : ∀ r, (transfer r).ticks = r.ticks ∧ (transfer r).extra = r.extra ∧ (transfer r).fault = r.fault) :
    ∃ t, step s = .next t ∧ t.ret = some (.executed (base + surcharge cc kind s)) ∧
      t.ticks = s.ticks + BitVec.ofNat 32 (base + surcharge cc kind s) := by
  have hsurcharge : surcharge cc kind s.ruleStart = surcharge cc kind s := by cases cc <;> rfl
  obtain ⟨u, hu, hticks, hextra, hfault⟩ := branchIf_surcharge (cc := cc) (kind := kind) (htransfer s.ruleStart)
  obtain ⟨t, ht, hret, htime⟩ := step_charges h (hexec.trans hu) (hfault.trans h.noFault)
  rw [hsurcharge] at hticks hextra
  refine ⟨t, ht, ?_, ?_⟩
  · rw [hret, hcost, hextra]
    exact congrArg (fun n => some (StepReturn.executed (base + n))) (Nat.zero_add _)
  · rw [htime, hcost, hticks, Nat.add_comm, BitVec.ofNat_add, ← BitVec.add_assoc]
    rfl

/-- Settles O38: the conditional rows by their base costs, and every other row by what its rule does to time. -/
theorem conditionalCosts : Obligations.ConditionalCosts := by
  refine ⟨fun s i rest cc base extra h hdecode hi => ?_, fun i s t hwf hi ht => exec_time hwf hi s t ht⟩
  have hinstr := decode_bytesAtPc hdecode
  rcases hi with ⟨⟨e8, rfl⟩, rfl, rfl⟩ | ⟨⟨a16, rfl⟩, rfl, rfl⟩ | ⟨⟨a16, rfl⟩, rfl, rfl⟩ | ⟨rfl, rfl, rfl⟩
  · exact step_of_branch (kind := .jr) h (State.nextCost_jrIf hinstr) (hinstr ▸ exec_jrIf cc e8 _) (by simp)
  · exact step_of_branch (kind := .jp) h (State.nextCost_jpIf hinstr) (hinstr ▸ exec_jpIf cc a16 _) (by simp)
  · exact step_of_branch (kind := .call) h (State.nextCost_callIf hinstr) (hinstr ▸ exec_callIf cc a16 _) (by simp)
  · exact step_of_branch (kind := .ret) h (State.nextCost_retIf hinstr) (hinstr ▸ exec_retIf cc _) (by simp)

end Sys2Proof.Machine
end

section
/-! The delayed enable: O39. -/

namespace Sys2Proof.Machine

open Sys2Proof.Claims

/-- IME and the pending enable after the rule of a row: `DI`, `RETI` and `EI` write them (R181, R223 to R225), and no
other row does (R229). -/
def enableAfter (i : Instr) (s : State) : Bool × Bool :=
  if i = .di then (false, false)
  else if i = .reti then (true, false)
  else if i = .ei then (if s.cfg.eiDelay then (s.ime, s.imePending || !s.ime) else (true, s.imePending))
  else (s.ime, s.imePending)

theorem exec_enable {i : Instr} (hwf : i.wf = true) (s : State) :
    Ensures (exec i s) fun t => t.cfg = s.cfg ∧ (t.ime, t.imePending) = enableAfter i s := by
  by_cases hi : i ∈ [.halt, .stop, .di, .ei, .reti]
  · simp only [List.mem_cons, List.not_mem_nil, or_false] at hi
    rcases hi with rfl | rfl | rfl | rfl | rfl
    · exact ensures_next.2 ⟨rfl, rfl⟩
    · rw [exec_stop, ensures_next]
      split <;> exact ⟨rfl, rfl⟩
    · exact ensures_next.2 ⟨rfl, rfl⟩
    · cases hd : s.cfg.eiDelay <;> cases hime : s.ime <;> simp [enableAfter, hd, hime]
    · exact ensures_next.2 ⟨rfl, rfl⟩
  · intro t ht
    have hkept := exec_controlKept hwf s hi t ht
    simp only [List.mem_cons, List.not_mem_nil, or_false, not_or] at hi
    obtain ⟨-, -, hdi, hei, hreti⟩ := hi
    rw [enableAfter, if_neg hdi, if_neg hreti, if_neg hei, hkept.ime, hkept.imePending]
    exact ⟨hkept.cfg, rfl⟩

/-- The delayed enable at the end of a step (R92). -/
theorem State.finishStep_enable (s : State) (pend : Bool) (cost : Nat) :
    (s.finishStep pend cost).ime = (s.ime || s.cfg.eiDelay && pend && s.imePending) ∧
      (s.finishStep pend cost).imePending = (s.imePending && !(s.cfg.eiDelay && pend)) := by
  rw [State.finishStep_eq]
  cases hd : s.cfg.eiDelay <;> cases pend <;> cases hp : s.imePending <;> simp [State.charged, hp]

/-- The end of a step keeps the latch. -/
theorem State.endStep_fault (s : State) (pend : Bool) (cost : Nat) : (s.endStep pend cost).fault = s.fault := by
  obtain ⟨_, _, _, _, _, hend⟩ := s.endStep_frame pend cost
  rw [hend]

/-- IME and the pending enable after a step that did not fault: those its rule leaves, with the delayed enable (R86, R92). -/
theorem step_enable {s t : State} (h : Ready s) (ht : step s = .next t) (hf : t.fault = none) :
    t.ime = ((enableAfter s.nextInstr s).1 || s.cfg.eiDelay && s.imePending && (enableAfter s.nextInstr s).2) ∧
      t.imePending = ((enableAfter s.nextInstr s).2 && !(s.cfg.eiDelay && s.imePending)) := by
  obtain ⟨u, hu, rfl⟩ := step_ready_inv h ht
  obtain ⟨hcfg, henable⟩ := exec_enable s.nextInstr_wf s.ruleStart u hu
  have hrule : enableAfter s.nextInstr s = (u.ime, u.imePending) := henable.symm
  rw [State.endStep_fault] at hf
  have hdelay : u.cfg.eiDelay = s.cfg.eiDelay := congrArg Config.eiDelay hcfg
  rw [State.endStep_of_none hf, hrule, ← hdelay]
  exact u.finishStep_enable s.imePending s.nextCost

/-- A step that faults keeps IME and the pending enable (R83, R84). -/
theorem step_fault_enable {s t : State} (h : Ready s) (ht : step s = .next t) (hf : t.fault ≠ none) :
    t.ime = s.ime ∧ t.imePending = s.imePending := by
  obtain ⟨u, hu, rfl⟩ := step_ready_inv h ht
  rw [State.endStep_fault] at hf
  rcases exec_fault_or_latch s.nextInstr_wf s.ruleStart u hu with hkept | ⟨record, rfl⟩
  · exact absurd (hkept.trans h.noFault) hf
  · rw [State.endStep_of_fault rfl]
    exact ⟨rfl, rfl⟩

/-- A row of one byte is the next instruction exactly when its byte stands at `PC`. -/
theorem State.nextInstr_eq_iff {i : Instr} {b1 : Byte} (hbytes : encode i = [b1]) (hwf : i.wf = true) (s : State) :
    s.nextInstr = i ↔ s.peek s.pc = b1 := by
  refine ⟨fun h => by rw [s.peek_pc_eq, h, hbytes, List.headD_cons], fun h => ?_⟩
  obtain ⟨hlen, hread⟩ := Instr.roundTrips hwf
  rw [hbytes, List.headD_cons] at hlen hread
  rw [State.nextInstr, h, decodeBytes_one hlen.symm]
  exact hread

/-! The rows that write the enables, by the byte at `PC`. -/

theorem State.nextInstr_eq_di (s : State) : s.nextInstr = .di ↔ s.peek s.pc = 0xF3 := s.nextInstr_eq_iff rfl rfl

theorem State.nextInstr_eq_ei (s : State) : s.nextInstr = .ei ↔ s.peek s.pc = 0xFB := s.nextInstr_eq_iff rfl rfl

theorem State.nextInstr_eq_reti (s : State) : s.nextInstr = .reti ↔ s.peek s.pc = 0xD9 := s.nextInstr_eq_iff rfl rfl

/-- The step at the byte of `EI`: what its rule leaves, with the delayed enable (R92, R224, R225). -/
theorem step_ei {s : State} (h : Ready s) (hei : s.peek s.pc = 0xFB) :
    ∃ t, step s = .next t ∧
      t.ime = ((enableAfter .ei s).1 || s.cfg.eiDelay && s.imePending && (enableAfter .ei s).2) ∧
      t.imePending = ((enableAfter .ei s).2 && !(s.cfg.eiDelay && s.imePending)) := by
  have hi := s.nextInstr_eq_ei.2 hei
  obtain ⟨u, hu, hstep⟩ := step_ready_cases h
  refine ⟨_, hstep, hi ▸ step_enable h hstep ?_⟩
  rw [State.endStep_fault, exec_fault (by rw [hi]; rfl) s.ruleStart u hu]
  exact h.noFault

/-- A step begun with a pending enable under `EI_DELAY`: every rule but `DI` leaves IME set or the enable pending. -/
theorem enableAfter_of_pending {i : Instr} {s : State} (hp : s.imePending = true) (hd : s.cfg.eiDelay = true)
    (hi : i ≠ .di) : ((enableAfter i s).1 || (enableAfter i s).2) = true := by
  unfold enableAfter
  rw [if_neg hi, if_pos hd, hp]
  split
  · rfl
  · split <;> simp

/-- Settles O39: a step that does not fault leaves the enables its rule leaves, with the delayed enable; a step that faults
and an idle step leave them alone. -/
theorem delayedEnable : Obligations.DelayedEnable := by
  refine ⟨fun s h hei hdelay hpending => ?_, fun s t h hdelay hpending ht hf => ?_, fun s t hm hf ht hcase => ?_,
    fun s h hei hdelay => ?_, fun s t h hdelay hdi hei hreti ht => ?_⟩
  · obtain ⟨t, ht, hime, hpend⟩ := step_ei h hei
    refine ⟨t, ht, ?_⟩
    simpa [enableAfter, hdelay, hpending] using And.intro hime hpend
  · obtain ⟨hime, hpend⟩ := step_enable h ht hf
    rw [hdelay, hpending] at hime hpend
    refine ⟨hpend.trans (Bool.and_false _), ?_⟩
    rw [hime, ne_eq, ← s.nextInstr_eq_di]
    by_cases hi : s.nextInstr = .di
    · rw [hi]
      simp [enableAfter]
    · simpa [hi] using enableAfter_of_pending hpending hdelay hi
  · by_cases hr : s.run = .running
    · exact step_fault_enable ⟨hm, hf, hr⟩ ht (hcase.resolve_left (· hr))
    · rw [step_eq hm, hf, if_neg hr] at ht
      cases ht
      exact ⟨rfl, rfl⟩
  · obtain ⟨t, ht, hime, -⟩ := step_ei h hei
    refine ⟨t, ht, ?_⟩
    simpa [enableAfter, hdelay] using hime
  · by_cases hf : t.fault = none
    · have hrule : enableAfter s.nextInstr s = (s.ime, s.imePending) := by
        rw [enableAfter, if_neg (mt s.nextInstr_eq_di.1 hdi), if_neg (mt s.nextInstr_eq_reti.1 hreti),
          if_neg (mt s.nextInstr_eq_ei.1 hei)]
      simpa [hdelay, hrule] using step_enable h ht hf
    · exact step_fault_enable h ht hf

end Sys2Proof.Machine
end

section
/-! The verdict: O40. -/

namespace Sys2Proof.Machine

open Sys2Proof.Claims

/-- Neither the escape nor an illegal code point begins a primary row that can fault (R83, R84). -/
theorem canFault_primaryTable {b1 : Byte} (hcb : b1 ≠ 0xCB) (hmem : b1 ∉ illegalSet) (b2 b3 : Byte) :
    canFault (primaryTable b1 b2 b3) = false := by
  have hoperands : canFault (primaryTable b1 b2 b3) = canFault (primaryTable b1 0 0) := by
    simp only [primaryTable, quadrant0, quadrant3, apply_pick4 canFault, apply_pick8 canFault]
    rfl
  have htable : ∀ b : Byte, b ≠ 0xCB → b ∉ illegalSet → canFault (primaryTable b 0 0) = false := by decide
  rw [hoperands, htable b1 hcb hmem]

/-- The rule of what the decoder reads from bytes that are neither illegal nor an unwired selector keeps the latch. -/
theorem exec_decodeBytes_fault {b1 b2 : Byte} {s : State} (hmem : b1 ∉ illegalSet)
    (hwired : ¬ (b1 = 0xCB ∧ s.cfg.implements b2 = false)) (b3 : Byte) :
    Ensures (exec (decodeBytes b1 b2 b3) s) fun t => t.fault = s.fault := by
  unfold decodeBytes
  split
  · next hcb =>
    obtain ⟨rule, hfault, hrule⟩ := exec_secondaryTable b2
    rw [hrule, ensures_onWired]
    exact ⟨fun _ => hfault s, fun hw => absurd ⟨hcb, hw⟩ hwired⟩
  · next hcb => exact exec_fault (canFault_primaryTable hcb hmem b2 b3) s

theorem verdict_eq (cfg : Config) (b1 b2 b3 : Byte) :
    verdict cfg b1 b2 b3 =
      if b1 ∈ illegalSet then .illegal b1
      else if b1 = 0xCB ∧ cfg.implements b2 = false then .unimplemented b2
      else .implemented (decodeBytes b1 b2 b3) := by
  unfold verdict decodeBytes
  by_cases hcb : b1 = 0xCB
  · have hmem : (0xCB : Byte) ∉ illegalSet := by decide
    subst hcb
    rw [if_pos rfl, if_neg hmem]
    cases hw : cfg.implements b2 <;> simp
  · have hunwired : ¬ (b1 = 0xCB ∧ cfg.implements b2 = false) := fun h => hcb h.1
    rw [if_neg hcb, if_neg hcb, if_neg hunwired]

/-- The verdict is implemented but for the illegal bytes and the unwired selectors, with what the decoder reads (R96). -/
theorem verdict_implemented_iff {cfg : Config} {b1 b2 b3 : Byte} {i : Instr} :
    verdict cfg b1 b2 b3 = .implemented i ↔
      (b1 ∉ illegalSet ∧ ¬ (b1 = 0xCB ∧ cfg.implements b2 = false)) ∧ decodeBytes b1 b2 b3 = i := by
  rw [verdict_eq]
  split
  · next hmem => exact ⟨nofun, fun ⟨⟨hlegal, _⟩, _⟩ => absurd hmem hlegal⟩
  · next hmem =>
    split
    · next hunwired => exact ⟨nofun, fun ⟨⟨_, hwired⟩, _⟩ => absurd hunwired hwired⟩
    · next hwired => exact ⟨fun hi => ⟨⟨hmem, hwired⟩, Verdict.implemented.inj hi⟩, fun ⟨_, hi⟩ => congrArg _ hi⟩

/-- The first byte of an illegal row is in `ILLEGAL_SET` (R83). -/
theorem encode_illegal_head (k : Fin 11) : (encode (.illegal k)).headD 0 ∈ illegalSet := by
  revert k; decide

/-- Settles O40: the illegal bytes and the unwired selectors fault, and the rule of anything else keeps the latch. -/
theorem threeWayVerdict : Obligations.ThreeWayVerdict := by
  refine ⟨verdict_eq, fun cfg b1 b2 b3 i hi => ?_, fun s t h ht => ?_⟩
  · obtain ⟨⟨hmem, -⟩, rfl⟩ := verdict_implemented_iff.1 hi
    refine ⟨decodeBytes_wf _ _ _, fun k hk => hmem ?_⟩
    rw [← encode_decodeBytes_head b1 b2 b3, hk]
    exact encode_illegal_head k
  · simp only [verdict_implemented_iff, exists_and_left, exists_eq', and_true]
    refine ⟨fun hf => ⟨fun hmem => ?_, fun ⟨hcb, hw⟩ => ?_⟩, fun ⟨hmem, hwired⟩ => ?_⟩
    · cases ht.symm.trans (faultingSteps.1 s h hmem)
      cases hf
    · cases ht.symm.trans (faultingSteps.2 s h hcb hw)
      cases hf
    · obtain ⟨u, hu, rfl⟩ := step_ready_inv h ht
      rw [State.endStep_fault, exec_decodeBytes_fault (s := s.ruleStart) hmem hwired _ u hu]
      exact h.noFault

end Sys2Proof.Machine
end

section
/-! The idle step: O35. -/

namespace Sys2Proof.Machine

open Sys2Proof.Claims

/-- The core's step of a core that is not running (R91). -/
theorem coreStep_idle {s : State} (hf : s.fault = none) (hr : s.run ≠ .running) : coreStep s = .next s.idleStep := by
  simp only [coreStep, hf, if_neg hr]

/-- Settles O35: a core that is not running idles; while it is quiescent no action of the collaborator is due, so that a
move before the next reset is an idle step or a change of memory. -/
theorem idleStep : Obligations.IdleStep := by
  refine ⟨fun s hm hf hr => (step_of_noMove hm).trans (coreStep_idle hf hr), fun s t hq ht hreset => ?_⟩
  · obtain ⟨hf, hr, hdue⟩ := hq
    cases hm : s.agenda with
    | nil =>
      have hidle := coreStep_idle (s := s.beginMove.beginStep) hf hr
      rw [step_of_noMove hm] at ht
      cases ht.symm.trans hidle
      exact ⟨⟨hf, hr, hdue⟩, rfl⟩
    | cons m rest =>
      rw [step_of_move hm] at ht
      rw [hm] at hdue
      cases m with
      | step =>
        have hidle := coreStep_idle (s := State.beginStep { s.beginMove with agenda := rest }) hf hr
        cases ht.symm.trans hidle
        exact ⟨⟨hf, hr, hdue⟩, rfl⟩
      | resume | divert => cases hdue
      | reset init => exact absurd hm (hreset init rest)
      | memoryChange addr v =>
        cases ht
        exact ⟨⟨hf, hr, hdue⟩, rfl⟩

end Sys2Proof.Machine
end

section
/-! The parts of R11's template: a primary row by its bytes, cost and effect, and the flag writes as `withFlags`. -/

namespace Sys2Proof.Machine

open Sys2Proof.Claims

theorem wf_iff_ne_prefix_CB {i : Instr} : i.wf = true ↔ i ≠ .prefix_CB := by
  unfold Instr.wf
  split
  · simp
  · next h => simpa using h

/-- A primary row runs as its bytes, its cost and its effect say: the decoder reads it back from its bytes (R11). -/
theorem runsAs_of_exec {i : Instr} {bytes : List Byte} {cost : Nat} {effect : State → State} (hbytes : encode i = bytes)
    (hcost : bytes.headD 0 ≠ 0xCB ∧ primaryCost (bytes.headD 0) = cost) (hexec : ∀ s, exec i s = .next (effect s)) :
    RunsAs i bytes cost effect := by
  obtain ⟨hhead, hcost⟩ := hcost
  have hwf : i.wf = true := wf_iff_ne_prefix_CB.2 fun hi => hhead (by rw [← hbytes, hi]; rfl)
  exact ⟨hbytes, fun rest => hbytes ▸ (decodeOfEncode i rest hwf).1, hcost, hexec⟩

/-! The flags of the claims are the model's. -/

theorem zf_eq_flag (s : State) : zf s = s.flag .z := rfl

theorem nf_eq_flag (s : State) : nf s = s.flag .n := rfl

theorem hf_eq_flag (s : State) : hf s = s.flag .h := rfl

theorem cf_eq_flag (s : State) : cf s = s.flag .c := rfl

/-- `F` is its low nibble and its four flags (R23). -/
theorem flagsOver_self (f : Byte) :
    flagsOver f (f.getLsbD 7) (f.getLsbD 6) (f.getLsbD 5) (f.getLsbD 4) = f := by
  revert f; decide

/-- Of the old `F`, the four flags over it keep the low nibble alone (R23). -/
theorem flagsOver_congr {f g : Byte} (hlow : f &&& 15#8 = g &&& 15#8) (z n h c : Bool) :
    flagsOver f z n h c = flagsOver g z n h c := by
  simp only [flagsOver, BitVec.ofNat_eq_ofNat, hlow]

/-- A state that differs from `s` in the four flags alone is `s` with the flags it has. -/
theorem State.eq_withFlags {s t : State} (hrest : t = { s with f := t.f }) (hlow : t.f &&& 15#8 = s.f &&& 15#8) :
    t = withFlags s (t.flag .z) (t.flag .n) (t.flag .h) (t.flag .c) := by
  have hf : flagsOver s.f (t.flag .z) (t.flag .n) (t.flag .h) (t.flag .c) = t.f :=
    (flagsOver_congr hlow.symm _ _ _ _).trans (flagsOver_self t.f)
  rw [withFlags, hf]
  exact hrest

theorem State.setZnhc_eq_withFlags (s : State) (z n h c : Bool) : s.setZnhc z n h c = withFlags s z n h c := by
  simpa using State.eq_withFlags (s.setZnhc_eq z n h c) (s.lowNibble_setZnhc z n h c)

@[simp] theorem zf_withFlags (s : State) (z n h c : Bool) : zf (withFlags s z n h c) = z := by
  simp [← State.setZnhc_eq_withFlags, zf_eq_flag]

@[simp] theorem nf_withFlags (s : State) (z n h c : Bool) : nf (withFlags s z n h c) = n := by
  simp [← State.setZnhc_eq_withFlags, nf_eq_flag]

@[simp] theorem hf_withFlags (s : State) (z n h c : Bool) : hf (withFlags s z n h c) = h := by
  simp [← State.setZnhc_eq_withFlags, hf_eq_flag]

@[simp] theorem cf_withFlags (s : State) (z n h c : Bool) : cf (withFlags s z n h c) = c := by
  simp [← State.setZnhc_eq_withFlags, cf_eq_flag]

theorem State.setZnh_eq_withFlags (s : State) (z n h : Bool) : s.setZnh z n h = withFlags s z n h (cf s) := by
  simpa [cf_eq_flag] using State.eq_withFlags (s.setZnh_eq z n h) (s.lowNibble_setZnh z n h)

theorem State.setNhc_eq_withFlags (s : State) (n h c : Bool) : s.setNhc n h c = withFlags s (zf s) n h c := by
  simpa [zf_eq_flag] using State.eq_withFlags (s.setNhc_eq n h c) (s.lowNibble_setNhc n h c)

/-- The flag writes of `DAA` keep `Nf` (R113). -/
theorem State.setFlags_zhc_eq_withFlags (s : State) (z h c : Bool) :
    ((s.setFlag .z z).setFlag .h h).setFlag .c c = withFlags s z (nf s) h c := by
  simpa [nf_eq_flag] using State.eq_withFlags (s := s) (t := ((s.setFlag .z z).setFlag .h h).setFlag .c c) rfl (by simp)

/-- The flag writes of `CPL` keep `Zf` and `Cf` (R114). -/
theorem State.setFlags_nh_eq_withFlags (s : State) (n h : Bool) :
    (s.setFlag .n n).setFlag .h h = withFlags s (zf s) n h (cf s) := by
  simpa [zf_eq_flag, cf_eq_flag] using State.eq_withFlags (s := s) (t := (s.setFlag .n n).setFlag .h h) rfl (by simp)

end Sys2Proof.Machine
end

section
/-! The accumulator operations: O1, O2 and O3. -/

namespace Sys2Proof.Machine

open Sys2Proof.Claims

/-- The number of an accumulator operation, the field `y` of its opcode byte (R78). -/
def aluNo : AluOp → Byte
  | .add => 0 | .adc => 1 | .sub => 2 | .sbc => 3 | .and => 4 | .xor => 5 | .or => 6 | .cp => 7

theorem encode_alu (op : AluOp) (x : Src8) : encode (.alu op x) = srcBytes (aluNo op) x := by
  cases x with
  | reg r => cases op <;> cases r <;> rfl
  | ind => cases op <;> rfl
  | imm v => cases op <;> rfl

/-- The first byte of an accumulator operation is not the escape, and it costs what its source costs (R285). -/
theorem primaryCost_srcBytes (op : AluOp) (x : Src8) :
    (srcBytes (aluNo op) x).headD 0 ≠ 0xCB ∧ primaryCost ((srcBytes (aluNo op) x).headD 0) = srcCost x := by
  cases x with
  | reg r => cases op <;> cases r <;> decide
  | ind => cases op <;> decide
  | imm v =>
    have himm : ∀ op, 0xC6 + 8 * aluNo op ≠ 0xCB ∧ primaryCost (0xC6 + 8 * aluNo op) = 8 := by
      intro op; cases op <;> decide
    exact himm op

@[simp] theorem srcRead_a (x : Src8) (s : State) : (srcRead x s).a = s.a := by cases x <;> rfl

@[simp] theorem srcRead_f (x : Src8) (s : State) : (srcRead x s).f = s.f := by cases x <;> rfl

/-- An accumulator operation on a source operand, once its result and flags are known (R103 to R110). -/
theorem alu_srcRead {op : AluOp} {x : Src8} {s : State} {v res : Byte} {z n h c : Bool}
    (hr : aluResult op s.a v (cf s) = ⟨res, z, n, h, c⟩) :
    (srcRead x s).alu op v =
      withFlags (if writesA op then { srcRead x s with a := res } else srcRead x s) z n h c := by
  have hflag : (srcRead x s).flag .c = cf s := State.flag_congr (srcRead_f x s) .c
  rw [State.alu_eq, srcRead_a, hflag, hr, State.setZnhc_eq_withFlags]
  rfl

/-- An accumulator operation runs as its number, its source and its result say (R100 to R110). -/
theorem runsAs_alu (op : AluOp) (x : Src8) {effect : State → State}
    (heffect : ∀ s, (srcRead x s).alu op (srcValue x s) = effect s) :
    RunsAs (.alu op x) (srcBytes (aluNo op) x) (srcCost x) effect :=
  runsAs_of_exec (encode_alu op x) (primaryCost_srcBytes op x) fun s => (exec_alu op x s).trans (congrArg _ (heffect s))

/-! The results and flags, operation by operation, in numbers. -/

/-- `Add8` with its result as a byte (R101). -/
theorem add8_carry (a v : Byte) (cin : Bool) :
    add8 a v cin = ⟨a + v + BitVec.ofNat 8 cin.toNat, decide ((a.toNat + v.toNat + cin.toNat) % 256 = 0), false,
      decide (a.toNat % 16 + v.toNat % 16 + cin.toNat > 15), decide (a.toNat + v.toNat + cin.toNat > 255)⟩ := by
  rw [add8_eq, BitVec.ofNat_add, BitVec.ofNat_add, BitVec.ofNat_toNat, BitVec.ofNat_toNat, BitVec.setWidth_eq,
    BitVec.setWidth_eq]

theorem add8_noCarry (a v : Byte) :
    add8 a v false = ⟨a + v, decide ((a.toNat + v.toNat) % 256 = 0), false,
      decide (a.toNat % 16 + v.toNat % 16 > 15), decide (a.toNat + v.toNat > 255)⟩ := by
  simpa using add8_carry a v false

/-- `Sub8` with its result as a byte: `Zf` is the test of that result (R102). -/
theorem sub8_borrow (a v : Byte) (cin : Bool) :
    sub8 a v cin = ⟨a - v - BitVec.ofNat 8 cin.toNat, decide (a - v - BitVec.ofNat 8 cin.toNat = 0), true,
      decide (a.toNat % 16 < v.toNat % 16 + cin.toNat), decide (a.toNat < v.toNat + cin.toNat)⟩ := by
  have hres : BitVec.ofInt 8 ((a.toNat : Int) - v.toNat - cin.toNat) = a - v - BitVec.ofNat 8 cin.toNat := by
    apply BitVec.eq_of_toNat_eq
    simp only [BitVec.toNat_ofInt, BitVec.toNat_sub, BitVec.toNat_ofNat]
    omega
  have hz : (sub8 a v cin).z = decide ((sub8 a v cin).res = 0) := rfl
  rw [sub8_eq, hres] at hz ⊢
  exact congrArg (fun z => AluResult.mk _ z true _ _) hz

theorem sub8_noBorrow (a v : Byte) :
    sub8 a v false = ⟨a - v, decide (a = v), true,
      decide (a.toNat % 16 < v.toNat % 16), decide (a.toNat < v.toNat)⟩ := by
  have hz : a - v = 0#8 ↔ a = v := sub_eq_zero
  simpa [hz] using sub8_borrow a v false

theorem logic8_eq (res : Byte) (h : Bool) : logic8 res h = ⟨res, decide (res = 0), false, h, false⟩ := rfl

/-- The exclusive or is 0 where the operands agree (R108). -/
theorem logic8_xor (a v : Byte) : logic8 (a ^^^ v) false = ⟨a ^^^ v, decide (a = v), false, false, false⟩ := by
  have hz : a ^^^ v = 0 ↔ a = v := BitVec.xor_eq_zero_iff
  simp only [logic8_eq, hz]

/-- The or is 0 where both operands are (R109). -/
theorem logic8_or (a v : Byte) : logic8 (a ||| v) false = ⟨a ||| v, decide (a = 0 ∧ v = 0), false, false, false⟩ := by
  have hz : a ||| v = 0 ↔ a = 0 ∧ v = 0 := BitVec.or_eq_zero_iff
  simp only [logic8_eq, hz]

/-- Settles O1: `ADD` is `Add8` without a carry, `ADC` with `Cf`. -/
theorem addAndAddWithCarry : Obligations.AddAndAddWithCarry :=
  ⟨fun x => runsAs_alu .add x fun _ => alu_srcRead (add8_noCarry _ _),
   fun x => runsAs_alu .adc x fun _ => alu_srcRead (add8_carry _ _ _)⟩

/-- Settles O2: `SUB` and `CP` are `Sub8` without a borrow, `SBC` with `Cf`; `CP` keeps `A`. -/
theorem subtractAndCompare : Obligations.SubtractAndCompare :=
  ⟨fun x => runsAs_alu .sub x fun _ => alu_srcRead (sub8_noBorrow _ _),
   fun x => runsAs_alu .sbc x fun _ => alu_srcRead (sub8_borrow _ _ _),
   fun x => runsAs_alu .cp x fun _ => alu_srcRead (sub8_noBorrow _ _)⟩

/-- Settles O3: the bitwise results; `XOR` is 0 where the operands agree, `OR` where both are 0. -/
theorem logicOperations : Obligations.LogicOperations :=
  ⟨fun x => runsAs_alu .and x fun _ => alu_srcRead (logic8_eq _ _),
   fun x => runsAs_alu .xor x fun _ => alu_srcRead (logic8_xor _ _),
   fun x => runsAs_alu .or x fun _ => alu_srcRead (logic8_or _ _)⟩

end Sys2Proof.Machine
end

section
/-! Increment and decrement: O4. -/

namespace Sys2Proof.Machine

open Sys2Proof.Claims

theorem encode_inc8 (t : Target8) : encode (.inc8 t) = [0x04 + 8 * target8Code t] := by
  cases t with
  | reg r => cases r <;> rfl
  | ind => rfl

theorem encode_dec8 (t : Target8) : encode (.dec8 t) = [0x05 + 8 * target8Code t] := by
  cases t with
  | reg r => cases r <;> rfl
  | ind => rfl

theorem primaryCost_inc8 (t : Target8) :
    0x04 + 8 * target8Code t ≠ 0xCB ∧ primaryCost (0x04 + 8 * target8Code t) = if t = .ind then 12 else 4 := by
  cases t with
  | reg r => cases r <;> decide
  | ind => decide

theorem primaryCost_dec8 (t : Target8) :
    0x05 + 8 * target8Code t ≠ 0xCB ∧ primaryCost (0x05 + 8 * target8Code t) = if t = .ind then 12 else 4 := by
  cases t with
  | reg r => cases r <;> decide
  | ind => decide

theorem State.readTarget_value (s : State) (t : Target8) : (s.readTarget t).1 = targetValue t s := by cases t <;> rfl

theorem State.writeTarget_readTarget (s : State) (t : Target8) (v : Byte) :
    (s.readTarget t).2.writeTarget t v = targetUpdate t v s := by cases t <;> rfl

/-- A target operand written leaves the carry alone (R21, R24). -/
theorem cf_targetUpdate (t : Target8) (v : Byte) (s : State) : cf (targetUpdate t v s) = cf s := by
  simp [← State.writeTarget_readTarget, cf_eq_flag]

/-- Settles O4: the target is updated by one, and the flags but `Cf` are those of `inc8` and `dec8`. -/
theorem incrementDecrementByte : Obligations.IncrementDecrementByte := by
  refine ⟨fun t => runsAs_of_exec (encode_inc8 t) (primaryCost_inc8 t) fun s => ?_,
    fun t => runsAs_of_exec (encode_dec8 t) (primaryCost_dec8 t) fun s => ?_⟩
  · rw [exec_inc8, inc8_eq, State.readTarget_value, State.writeTarget_readTarget, State.setZnh_eq_withFlags,
      cf_targetUpdate]
  · rw [exec_dec8, dec8_eq, State.readTarget_value, State.writeTarget_readTarget, State.setZnh_eq_withFlags,
      cf_targetUpdate]

end Sys2Proof.Machine
end

section
/-! The flag instructions and the decimal adjust: O7, O5 and O6. -/

namespace Sys2Proof.Machine

open Sys2Proof.Claims

/-- Settles O7: each writes its flags and keeps the others. -/
theorem flagInstructions : Obligations.FlagInstructions :=
  ⟨runsAs_of_exec rfl (by decide) fun s =>
      (exec_cpl s).trans (congrArg _ ((s.setReg8 .a (~~~s.a)).setFlags_nh_eq_withFlags true true)),
   runsAs_of_exec rfl (by decide) fun s => (exec_scf s).trans (congrArg _ (s.setNhc_eq_withFlags false false true)),
   runsAs_of_exec rfl (by decide) fun s => (exec_ccf s).trans (congrArg _ (s.setNhc_eq_withFlags false false _))⟩

/-- The low part of the decimal adjustment, 6 or 0 (R113). -/
def daaLow (a : Byte) (n h : Bool) : Nat := if h = true ∨ (n = false ∧ a.toNat % 16 > 9) then 0x06 else 0

/-- The high part of the decimal adjustment, 0x60 or 0 (R113). -/
def daaHigh (a : Byte) (n c : Bool) : Nat := if c = true ∨ (n = false ∧ a.toNat > 0x99) then 0x60 else 0

/-- The adjustment is the sum of its parts. -/
theorem daaAdjust_eq (a : Byte) (n h c : Bool) :
    daaAdjust a n h c = BitVec.ofNat 8 (daaLow a n h + daaHigh a n c) := by
  have hnibble : a &&& 0x0F > 0x09 ↔ a.toNat % 16 > 9 := by revert a; decide
  have hbyte : a > 0x99 ↔ a.toNat > 0x99 := BitVec.lt_def
  simp only [daaAdjust, daaLow, daaHigh, Bool.or_eq_true, Bool.and_eq_true, Bool.not_eq_true', decide_eq_true_eq, hnibble,
    hbyte]
  split <;> split <;> rfl

/-- The carry out is the high part of the adjustment. -/
theorem daaAdjust_carry (a : Byte) (n h c : Bool) :
    (daaAdjust a n h c &&& 0x60 != 0) = decide (daaHigh a n c = 0x60) := by
  rw [daaAdjust_eq, daaLow, daaHigh]
  split <;> split <;> rfl

/-- The decimally adjusted accumulator: the adjustment is subtracted after a subtraction and added otherwise (R113). -/
def daaResult (a : Byte) (n h c : Bool) : Byte :=
  if n then a - BitVec.ofNat 8 (daaLow a n h + daaHigh a n c) else a + BitVec.ofNat 8 (daaLow a n h + daaHigh a n c)

theorem daa8_eq (a : Byte) (n h c : Bool) :
    daa8 a n h c = (daaResult a n h c, decide (daaResult a n h c = 0), decide (daaHigh a n c = 0x60)) := by
  simp only [daa8, daaAdjust_carry]
  simp only [daaAdjust_eq]
  rfl

/-- `DAA` by its result and its carry (R113). -/
theorem exec_daa_eq (s : State) :
    exec .daa s = .next (withFlags { s with a := daaResult s.a (nf s) (hf s) (cf s) }
      (decide (daaResult s.a (nf s) (hf s) (cf s) = 0)) (nf s) false (decide (daaHigh s.a (nf s) (cf s) = 0x60))) := by
  rw [exec_daa, daa8_eq]
  exact congrArg _ ((s.setReg8 .a _).setFlags_zhc_eq_withFlags _ false _)

/-! Decimal addition. -/

/-- Both nibbles are decimal digits (R119). -/
def IsBcd (v : Byte) : Prop := v.toNat / 16 ≤ 9 ∧ v.toNat % 16 ≤ 9

/-- The decimal value of a packed-BCD byte (R119). -/
def bcdValue (v : Byte) : Nat := v.toNat / 16 * 10 + v.toNat % 16

/-- After `ADD`, the low part is due where the low digits carry. -/
theorem daaLow_add {a v : Byte} (ha : IsBcd a) (hv : IsBcd v) :
    daaLow (a + v) false (decide (a.toNat % 16 + v.toNat % 16 > 15)) =
      if a.toNat % 16 + v.toNat % 16 > 9 then 6 else 0 := by
  obtain ⟨-, ha⟩ := ha
  obtain ⟨-, hv⟩ := hv
  refine if_congr ?_ rfl rfl
  rw [BitVec.toNat_add, decide_eq_true_eq, eq_self, true_and]
  omega

/-- After `ADD`, the high part is due where the decimal sum passes 99. -/
theorem daaHigh_add {a v : Byte} (ha : IsBcd a) (hv : IsBcd v) :
    daaHigh (a + v) false (decide (a.toNat + v.toNat > 255)) = if bcdValue a + bcdValue v > 99 then 0x60 else 0 := by
  obtain ⟨ha1, ha0⟩ := ha
  obtain ⟨hv1, hv0⟩ := hv
  refine if_congr ?_ rfl rfl
  rw [BitVec.toNat_add, decide_eq_true_eq, eq_self, true_and, bcdValue, bcdValue]
  omega

/-- The adjustment in numbers: `high` and `low` are the sums of two decimal digits each (R119). -/
theorem adjusted_digits : ∀ high ≤ 18, ∀ low ≤ 18,
    (high * 16 + low + ((if low > 9 then 6 else 0) + if high * 10 + low > 99 then 0x60 else 0)) % 256 =
      (high * 10 + low) % 100 / 10 * 16 + (high * 10 + low) % 10 := by decide

/-- The adjusted sum is the packed BCD of the decimal sum modulo 100 (R119). -/
theorem daaResult_add {a v : Byte} (ha : IsBcd a) (hv : IsBcd v) :
    (daaResult (a + v) false (decide (a.toNat % 16 + v.toNat % 16 > 15)) (decide (a.toNat + v.toNat > 255))).toNat =
      (bcdValue a + bcdValue v) % 100 / 10 * 16 + (bcdValue a + bcdValue v) % 10 := by
  have hbinary : a.toNat + v.toNat = (a.toNat / 16 + v.toNat / 16) * 16 + (a.toNat % 16 + v.toNat % 16) := by omega
  have hdecimal : bcdValue a + bcdValue v = (a.toNat / 16 + v.toNat / 16) * 10 + (a.toNat % 16 + v.toNat % 16) := by
    rw [bcdValue, bcdValue]
    omega
  rw [daaResult, daaLow_add ha hv, daaHigh_add ha hv, if_neg Bool.false_ne_true, BitVec.toNat_add, BitVec.toNat_add,
    BitVec.toNat_ofNat, ← Nat.add_mod, hbinary, hdecimal]
  exact adjusted_digits _ (Nat.add_le_add ha.1 hv.1) _ (Nat.add_le_add ha.2 hv.2)

/-- What `ADD` leaves for `DAA` to read: the sum, a clear `Nf` and the two carries (R103). -/
theorem exec_add_leaves (s : State) (x : Src8) :
    ∃ t, exec (.alu .add x) s = .next t ∧ t.a = s.a + srcValue x s ∧ nf t = false ∧
      hf t = decide (s.a.toNat % 16 + (srcValue x s).toNat % 16 > 15) ∧
      cf t = decide (s.a.toNat + (srcValue x s).toNat > 255) := by
  obtain ⟨-, -, -, hadd⟩ := addAndAddWithCarry.1 x
  exact ⟨_, hadd s, rfl, nf_withFlags .., hf_withFlags .., cf_withFlags ..⟩

/-- Settles O6: `DAA` reads the sum and the carries that `ADD` leaves. -/
theorem decimalAddLaw : Obligations.DecimalAddLaw := by
  intro s x ha1 ha0 hv1 hv0
  have ha : IsBcd s.a := ⟨ha1, ha0⟩
  have hv : IsBcd (srcValue x s) := ⟨hv1, hv0⟩
  obtain ⟨t, hadd, hta, hn, hh, hc⟩ := exec_add_leaves s x
  have hdaa := exec_daa_eq t
  rw [hta, hn, hh, hc] at hdaa
  refine ⟨t, _, hadd, hdaa, daaResult_add ha hv, ?_⟩
  rw [cf_withFlags, daaHigh_add ha hv, decide_eq_true_eq]
  exact ite_eq_left_iff.trans (by simp [bcdValue])

end Sys2Proof.Machine

namespace Sys2Proof

/-- Settles O5: the adjustment is the sum of its parts and `Cf` is its high part. -/
theorem decimalAdjust : Obligations.DecimalAdjust := Machine.runsAs_of_exec rfl (by decide) Machine.exec_daa_eq

end Sys2Proof
end

section
/-! The 16-bit arithmetic: O8, O9 and O10. -/

namespace Sys2Proof.Machine

/-! The carries of R130 and R134. Their exclusive-or form is the carry into the masked bit. -/

/-- A test by the mask `2 ^ i` reads bit `i`. -/
theorem and_twoPow_bne_zero {w i : Nat} (hi : i < w) (v : BitVec w) : (v &&& BitVec.twoPow w i != 0) = v.getLsbD i := by
  have hmask : BitVec.twoPow w i ≠ 0#w := fun h => by simpa [hi] using congrArg (·.getLsbD i) h
  rw [BitVec.and_twoPow]
  cases v.getLsbD i <;> simp [hmask]

/-- The exclusive or of two words and their sum holds the carry into each bit (R130, R134). -/
theorem xor_xor_add_bit {w i : Nat} (hi : i < w) (x y : BitVec w) :
    ((x ^^^ y ^^^ (x + y)) &&& BitVec.twoPow w i != 0) = decide (x.toNat % 2 ^ i + y.toNat % 2 ^ i > 2 ^ i - 1) := by
  have hcarry : BitVec.carry i x y false = decide (x.toNat % 2 ^ i + y.toNat % 2 ^ i > 2 ^ i - 1) := by
    have hpos := Nat.two_pow_pos i
    rw [BitVec.carry, decide_eq_decide, Bool.toNat_false]
    omega
  rw [and_twoPow_bne_zero hi, BitVec.getLsbD_xor, BitVec.getLsbD_xor, BitVec.getLsbD_add hi, hcarry]
  cases x.getLsbD i <;> cases y.getLsbD i <;> simp

/-- Bit 16 of the sum of two words is set iff the sum passes 0xFFFF (R130). -/
theorem sum_bit16 (a b : Word) : ((a.toNat + b.toNat) &&& 0x10000 != 0) = decide (a.toNat + b.toNat > 65535) := by
  have hmask : (a.toNat + b.toNat) &&& 0x10000 = (a.toNat + b.toNat) / 65536 % 2 * 65536 := by
    rw [show 0x10000 = 2 ^ 16 from rfl, Nat.and_two_pow, Nat.toNat_testBit]
  rw [hmask, Bool.eq_iff_iff, bne_iff_ne, decide_eq_true_eq]
  omega

/-- `Add16` in numbers (R130). -/
theorem add16_eq (a b : Word) :
    add16 a b = (BitVec.ofNat 16 (a.toNat + b.toNat), decide (a.toNat % 4096 + b.toNat % 4096 > 4095),
      decide (a.toNat + b.toNat > 65535)) := by
  have hhalf : ((a ^^^ b ^^^ (a + b)) &&& 0x1000 != 0) = decide (a.toNat % 4096 + b.toNat % 4096 > 4095) :=
    xor_xor_add_bit (i := 12) (by decide) a b
  rw [← hhalf, ← sum_bit16]
  rfl

/-- A displacement added to a word is its signed value added (R73, R134). -/
theorem add_sext16_eq (v : Word) (e : Byte) : v + sext16 e = BitVec.ofInt 16 (v.toNat + e.toInt) := by
  rw [BitVec.ofInt_add, BitVec.ofInt_natCast, BitVec.ofNat_toNat, BitVec.setWidth_eq]
  rfl

/-- The low byte of a displacement's sign extension is the displacement (R8). -/
theorem sext16_toNat_mod (e : Byte) : (sext16 e).toNat % 256 = e.toNat := by
  revert e; decide

/-- `AddSPe` in numbers: the carries are those of the low bytes, whatever the displacement's sign (R134). -/
theorem addSpE_eq (sp : Word) (e : Byte) :
    addSpE sp e = (BitVec.ofInt 16 (sp.toNat + e.toInt), decide (sp.toNat % 16 + e.toNat % 16 > 15),
      decide (sp.toNat % 256 + e.toNat > 255)) := by
  have hbyte : (sext16 e).toNat % 256 = e.toNat := sext16_toNat_mod e
  have hnibble : (sext16 e).toNat % 16 = e.toNat % 16 := by omega
  have hh : ((sp ^^^ sext16 e ^^^ (sp + sext16 e)) &&& 0x10 != 0) = decide (sp.toNat % 16 + (sext16 e).toNat % 16 > 15) :=
    xor_xor_add_bit (i := 4) (by decide) sp (sext16 e)
  have hc : ((sp ^^^ sext16 e ^^^ (sp + sext16 e)) &&& 0x100 != 0) = decide (sp.toNat % 256 + (sext16 e).toNat % 256 > 255) :=
    xor_xor_add_bit (i := 8) (by decide) sp (sext16 e)
  rw [addSpE, hh, hc, hnibble, hbyte, add_sext16_eq]

/-- Settles O8: the carries of `Add16` are those out of bits 11 and 15, and `Zf` is not written. -/
theorem addPairToHl : Obligations.AddPairToHl := by
  refine fun p => runsAs_of_exec (by cases p <;> rfl) (by cases p <;> decide) fun s => ?_
  rw [exec_addHl, add16_eq]
  exact congrArg _ ((s.setReg16 .hl _).setNhc_eq_withFlags false _ _)

/-- Settles O9: one is added or subtracted modulo 2^16, and only the pair is written. -/
theorem incrementDecrementPair : Obligations.IncrementDecrementPair := by
  refine ⟨fun p => runsAs_of_exec (by cases p <;> rfl) (by cases p <;> decide) fun s => ?_,
    fun p => runsAs_of_exec (by cases p <;> rfl) (by cases p <;> decide) fun s => ?_⟩
  · rw [exec_inc16, BitVec.add_def]
    rfl
  · rw [exec_dec16, BitVec.sub_def, Nat.add_comm]
    rfl

/-- Settles O10: the sum is signed, and the carries are those out of bits 3 and 7 of the unsigned low bytes. -/
theorem stackPointerPlusDisplacement : Obligations.StackPointerPlusDisplacement := by
  have hcostSp : (0xE8 : Byte) ≠ 0xCB ∧ primaryCost 0xE8 = 16 := by decide
  have hcostHl : (0xF8 : Byte) ≠ 0xCB ∧ primaryCost 0xF8 = 12 := by decide
  refine ⟨fun e => runsAs_of_exec rfl hcostSp fun s => ?_, fun e => runsAs_of_exec rfl hcostHl fun s => ?_⟩
  · rw [exec_add_SP_e8, addSpE_eq]
    exact congrArg _ ((s.setReg16 .sp _).setZnhc_eq_withFlags false false _ _)
  · rw [exec_ld_HL_SPe8, addSpE_eq]
    exact congrArg _ ((s.setReg16 .hl _).setZnhc_eq_withFlags false false _ _)

end Sys2Proof.Machine
end

section
/-! The secondary rows: their selector, their cost and the fault of an unwired selector (R79, R84, R286). -/

namespace Sys2Proof.Machine

open Sys2Proof.Claims

/-- A selector as the number of its fields (R71, R79). -/
theorem opByte_eq (x : BitVec 2) (y z : BitVec 3) :
    opByte x y z = 0x40 * x.setWidth 8 + 8 * y.setWidth 8 + z.setWidth 8 := by
  revert x y z; decide

theorem target8Code_eq (t : Target8) : target8Code t = (targetCode t).setWidth 8 := by
  cases t with
  | reg r => cases r <;> rfl
  | ind => rfl

theorem secondaryCost_opByte (x : BitVec 2) (y : BitVec 3) (t : Target8) :
    secondaryCost (opByte x y (targetCode t)) = if t = .ind then pick4 x 16 12 16 16 else 8 := by
  rw [secondaryCost, fieldX_opByte, fieldZ_opByte, targetOfCode_targetCode]
  cases t <;> rfl

/-- A secondary row runs as its selector, its cost and its effect say: the decoder reads it back from its bytes (R11). -/
theorem runsWired_of_exec {i : Instr} {op2 : Byte} {cost : Nat} {effect : State → State} (hbytes : encode i = [0xCB, op2])
    (hcost : secondaryCost op2 = cost) (hexec : ∀ s, exec i s = onWired op2 effect s) : RunsWired i op2 cost effect := by
  have hwf : i.wf = true := wf_iff_ne_prefix_CB.2 fun hi => by subst hi; cases hbytes
  exact ⟨hbytes, fun rest => hbytes ▸ (decodeOfEncode i rest hwf).1, hcost, hexec⟩

end Sys2Proof.Machine
end

section
/-! The rotates, shifts and swap: O11, O12 and O13. -/

namespace Sys2Proof.Machine

open Sys2Proof.Claims

/-- The sums of R141 never pass a byte. -/
theorem rotNumber_lt (kind : RotKind) {old : Nat} (hold : old < 256) (carry : Bool) :
    (rotNumber kind old carry).1 < 256 := by
  have hcarry : carry.toNat ≤ 1 := Bool.toNat_le carry
  cases kind <;> simp only [rotNumber] <;> omega

/-- `Rot` in numbers (R141). -/
theorem rot8_eq (kind : RotKind) (old : Byte) (carry : Bool) :
    rot8 kind old carry =
      (BitVec.ofNat 8 (rotNumber kind old.toNat carry).1, (rotNumber kind old.toNat carry).2) := by
  cases kind <;> (revert old carry; decide)

/-- `Zf` of a secondary form is the test of R141's number. -/
theorem rotNumber_byte_beq_zero (kind : RotKind) (old : Byte) (carry : Bool) :
    (BitVec.ofNat 8 (rotNumber kind old.toNat carry).1 == 0) = decide ((rotNumber kind old.toNat carry).1 = 0) := by
  have hlt := rotNumber_lt kind old.isLt carry
  rw [Bool.eq_iff_iff, beq_iff_eq, decide_eq_true_eq, ← BitVec.toNat_inj, BitVec.toNat_ofNat, Nat.mod_eq_of_lt hlt]
  rfl

/-- An accumulator short form in numbers: `Zf` is cleared whatever the result (R141). -/
theorem rotateA_eq_withFlags (kind : RotKind) (s : State) :
    rotateA kind s = .next (withFlags { s with a := BitVec.ofNat 8 (rotNumber kind s.a.toNat (cf s)).1 } false false false
      (rotNumber kind s.a.toNat (cf s)).2) := by
  rw [rotateA_eq, rot8_eq]
  exact congrArg _ ((s.setReg8 .a _).setZnhc_eq_withFlags false false false _)

/-- Settles O11: each short form is `rotateA` of its kind. -/
theorem accumulatorRotates : Obligations.AccumulatorRotates :=
  ⟨runsAs_of_exec rfl (by decide) (rotateA_eq_withFlags .rlc), runsAs_of_exec rfl (by decide) (rotateA_eq_withFlags .rrc),
   runsAs_of_exec rfl (by decide) (rotateA_eq_withFlags .rl), runsAs_of_exec rfl (by decide) (rotateA_eq_withFlags .rr)⟩

/-- `RotOp(kind)` in numbers (R141). -/
theorem State.rotOp_eq_withFlags (s : State) (kind : RotKind) (t : Target8) :
    s.rotOp kind t =
      withFlags (targetUpdate t (BitVec.ofNat 8 (rotNumber kind (targetValue t s).toNat (cf s)).1) s)
        (decide ((rotNumber kind (targetValue t s).toNat (cf s)).1 = 0)) false false
        (rotNumber kind (targetValue t s).toNat (cf s)).2 := by
  rw [State.rotOp, State.readTarget_value, rot8_eq, rotNumber_byte_beq_zero, State.writeTarget_readTarget,
    State.setZnhc_eq_withFlags, cf_eq_flag]

/-- The selector of a rotate, shift or swap is `kind*8 + r` (R79). -/
theorem opByte_rot (kind : RotKind) (t : Target8) :
    opByte 0 (rotCode kind) (targetCode t) = 8 * rotNo kind + target8Code t := by
  rw [opByte_eq, target8Code_eq]
  cases kind <;> rfl

/-- Settles O12: the target is updated by `RotOp`, behind a wired selector. -/
theorem secondaryRotates : Obligations.SecondaryRotates := by
  intro kind t
  rw [← opByte_rot]
  refine runsWired_of_exec (encode_rot kind t) (secondaryCost_opByte 0 _ t) fun s => ?_
  rw [exec_rot]
  exact congrArg (onWired _ · s) (funext fun s => s.rotOp_eq_withFlags kind t)

/-- The byte of `RLCA` is the rotation by one place (R142). -/
theorem rot8_rlc (a : Byte) (carry : Bool) : rot8 .rlc a carry = (a.rotateLeft 1, a.getLsbD 7) := by
  revert a carry; decide

/-- The state after `RLCA`: `A` rotated left by one place, and `Cf` the bit rotated out (R142). -/
def afterRlca (s : State) : State := withFlags { s with a := s.a.rotateLeft 1 } false false false (s.a.getLsbD 7)

theorem exec_rlca_eq (s : State) : exec .rlca s = .next (afterRlca s) := by
  rw [exec_rlca, rotateA_eq, rot8_rlc]
  exact congrArg _ ((s.setReg8 .a _).setZnhc_eq_withFlags false false false _)

theorem cf_afterRlca (s : State) : cf (afterRlca s) = s.a.getLsbD 7 := cf_withFlags ..

@[simp] theorem afterRlca_a (s : State) : (afterRlca s).a = s.a.rotateLeft 1 := rfl

/-- A byte rotated eight times by one place is the byte (R154). -/
theorem rotateLeft_one_eight_times (a : Byte) : (BitVec.rotateLeft · 1)^[8] a = a := by
  revert a; decide

/-- Settles O13: every `RLCA` rotates `A` by one place, and eight places are the whole byte. -/
theorem eightRlcaRestoreA : Obligations.EightRlcaRestoreA := by
  refine ⟨fun s => ⟨_, exec_rlca_eq s, cf_afterRlca s⟩, fun s => ?_⟩
  refine ⟨_, _, _, _, _, _, _, _, exec_rlca_eq _, exec_rlca_eq _, exec_rlca_eq _, exec_rlca_eq _, exec_rlca_eq _,
    exec_rlca_eq _, exec_rlca_eq _, exec_rlca_eq _, ?_⟩
  simpa using rotateLeft_one_eight_times s.a

end Sys2Proof.Machine
end

section
/-! Bit test, reset and set: O14 and O15. -/

namespace Sys2Proof.Machine

open Sys2Proof.Claims

/-- The mask of a bit number is its power of two (R160). -/
theorem bitMask_eq_ofNat (b : BitVec 3) : bitMask b = BitVec.ofNat 8 (2 ^ b.toNat) :=
  BitVec.eq_of_toNat_eq (BitVec.toNat_twoPow 8 b.toNat)

/-- The mask leaves of a byte its bit `b` in place (R160). -/
theorem and_bitMask (b : BitVec 3) (v : Byte) :
    v &&& bitMask b = BitVec.ofNat 8 (v.toNat / 2 ^ b.toNat % 2 * 2 ^ b.toNat) := by
  have hand : v &&& bitMask b = if v.getLsbD b.toNat then bitMask b else 0 := BitVec.and_twoPow v b.toNat
  rw [hand, getLsbD_div, bitMask_eq_ofNat]
  rcases Nat.mod_two_eq_zero_or_one (v.toNat / 2 ^ b.toNat) with h | h <;> simp [h]

/-- A bit in place is part of the byte: taking it off never borrows. -/
theorem bit_mul_two_pow_le (v n : Nat) : v / 2 ^ n % 2 * 2 ^ n ≤ v :=
  (Nat.mul_le_mul_right _ (Nat.mod_le _ _)).trans (Nat.div_mul_le_self _ _)

/-- `RES` leaves bit `b` clear (R163, R164). -/
theorem resetBit_and_bitMask (b : BitVec 3) (v : Byte) : resetBit b v &&& bitMask b = 0#8 := by
  rw [resetBit, BitVec.and_assoc, BitVec.not_and_self]
  exact BitVec.and_zero

/-- `RES` takes bit `b` off the byte (R163, R164). -/
theorem resetBit_add (b : BitVec 3) (v : Byte) : resetBit b v + (v &&& bitMask b) = v := by
  have hdisjoint : resetBit b v &&& (v &&& bitMask b) = 0#8 := by
    rw [BitVec.and_comm v, ← BitVec.and_assoc, resetBit_and_bitMask, BitVec.zero_and]
  rw [BitVec.add_eq_or_of_and_eq_zero _ _ hdisjoint]
  ext; simp [resetBit, ← Bool.and_or_distrib_left]

/-- `SET` puts bit `b` on the byte that `RES` leaves (R165, R166). -/
theorem setBitOn_eq_resetBit_add (b : BitVec 3) (v : Byte) : setBitOn b v = resetBit b v + bitMask b := by
  rw [BitVec.add_eq_or_of_and_eq_zero _ _ (resetBit_and_bitMask b v)]
  ext; simp [resetBit, setBitOn, Bool.or_and_distrib_right]

/-- `RES` in numbers (R163, R164). -/
theorem resetBit_eq (b : BitVec 3) (v : Byte) :
    resetBit b v = BitVec.ofNat 8 (v.toNat - v.toNat / 2 ^ b.toNat % 2 * 2 ^ b.toNat) := by
  have hle := bit_mul_two_pow_le v.toNat b.toNat
  rw [← BitVec.ofNat_sub_ofNat_of_le _ _ (hle.trans_lt v.isLt) hle, ← and_bitMask, BitVec.ofNat_toNat,
    BitVec.setWidth_eq]
  exact eq_sub_of_add_eq (resetBit_add b v)

/-- `SET` in numbers: a clear bit is added (R165, R166). -/
theorem setBitOn_eq (b : BitVec 3) (v : Byte) :
    setBitOn b v = BitVec.ofNat 8 (v.toNat + (1 - v.toNat / 2 ^ b.toNat % 2) * 2 ^ b.toNat) := by
  have hle := bit_mul_two_pow_le v.toNat b.toNat
  rw [setBitOn_eq_resetBit_add, resetBit_eq, bitMask_eq_ofNat, ← BitVec.ofNat_add]
  rcases Nat.mod_two_eq_zero_or_one (v.toNat / 2 ^ b.toNat) with h | h
  · simp [h]
  · rw [h, Nat.one_mul] at hle
    simp [h, Nat.sub_add_cancel hle]

/-- `Zf` of `BIT` is the test of bit `b` in numbers (R161). -/
theorem not_getLsbD_eq (b : BitVec 3) (v : Byte) : (!v.getLsbD b.toNat) = decide (v.toNat / 2 ^ b.toNat % 2 = 0) := by
  simp only [getLsbD_div, ← decide_not, Nat.mod_two_ne_one]

theorem State.readTarget_state (s : State) (t : Target8) : (s.readTarget t).2 = targetRead t s := by cases t <;> rfl

/-- A target operand read leaves the carry alone (R24). -/
theorem cf_targetRead (t : Target8) (s : State) : cf (targetRead t s) = cf s := by
  simp [← State.readTarget_state, cf_eq_flag]

/-- `BIT b,t` by its flags (R161, R162). -/
theorem State.testBit_eq_withFlags (s : State) (b : BitVec 3) (t : Target8) :
    s.testBit b t =
      withFlags (targetRead t s) (decide ((targetValue t s).toNat / 2 ^ b.toNat % 2 = 0)) false true (cf s) := by
  rw [State.testBit, State.readTarget_value, State.readTarget_state, State.setZnh_eq_withFlags, cf_targetRead,
    not_getLsbD_eq]

/-- `RES b,t` by the byte it writes (R163, R164). -/
theorem State.clearBit_eq_targetUpdate (s : State) (b : BitVec 3) (t : Target8) :
    s.clearBit b t = targetUpdate t
      (BitVec.ofNat 8 ((targetValue t s).toNat - (targetValue t s).toNat / 2 ^ b.toNat % 2 * 2 ^ b.toNat)) s := by
  rw [State.clearBit, State.readTarget_value, State.writeTarget_readTarget, resetBit_eq]

/-- `SET b,t` by the byte it writes (R165, R166). -/
theorem State.raiseBit_eq_targetUpdate (s : State) (b : BitVec 3) (t : Target8) :
    s.raiseBit b t = targetUpdate t
      (BitVec.ofNat 8 ((targetValue t s).toNat + (1 - (targetValue t s).toNat / 2 ^ b.toNat % 2) * 2 ^ b.toNat)) s := by
  rw [State.raiseBit, State.readTarget_value, State.writeTarget_readTarget, setBitOn_eq]

/-- A row of the bit groups by its group `x`: the selector is the group's base with `8*b + r` (R79, R286). -/
theorem runsWired_bitRow {i : Instr} {x : BitVec 2} {b : BitVec 3} {t : Target8} {rule effect : State → State}
    {base : Byte} {costInd : Nat} (hbase : 0x40 * x.setWidth 8 = base) (hcost : pick4 x 16 12 16 16 = costInd)
    (hbytes : encode i = [0xCB, opByte x b (targetCode t)])
    (hexec : ∀ s, exec i s = onWired (opByte x b (targetCode t)) rule s) (heffect : ∀ s, rule s = effect s) :
    RunsWired i (base + 8 * b.setWidth 8 + target8Code t) (if t = .ind then costInd else 8) effect := by
  obtain rfl : rule = effect := funext heffect
  rw [← hbase, ← hcost, target8Code_eq, ← opByte_eq]
  exact runsWired_of_exec hbytes (secondaryCost_opByte x b t) hexec

/-- Settles O14: behind a wired selector the target is read and its bit tested. -/
theorem bitTest : Obligations.BitTest := fun b t =>
  runsWired_bitRow rfl rfl (encode_bit b t) (exec_bit b t) fun s => s.testBit_eq_withFlags b t

/-- Settles O15: behind a wired selector the target is updated by `resetBit` or `setBitOn`. -/
theorem bitResetAndSet : Obligations.BitResetAndSet :=
  ⟨fun b t => runsWired_bitRow rfl rfl (encode_res b t) (exec_res b t) fun s => s.clearBit_eq_targetUpdate b t,
   fun b t => runsWired_bitRow rfl rfl (encode_set b t) (exec_set b t) fun s => s.raiseBit_eq_targetUpdate b t⟩

end Sys2Proof.Machine
end

section
/-! The control transfers: O16 to O20. -/

namespace Sys2Proof.Machine

open Sys2Proof.Claims

/-! The stack moves and the transfers as the states of the claims (R57, R58, R171 to R182). -/

theorem State.push16_eq_pushed (s : State) (v : Word) : s.push16 v = pushed s v := rfl

theorem State.pop16_eq_popped (s : State) : s.pop16 = (popValue s, popped s) := rfl

theorem State.jump_relTarget (s : State) (e8 : Byte) :
    s.jump (s.relTarget e8) = { s with pc := BitVec.ofInt 16 (s.pc.toNat + e8.toInt) } := by
  rw [State.jump, State.relTarget, add_sext16_eq]

theorem State.call_eq_pushed (s : State) (target : Word) : s.call target = { pushed s s.pc with pc := target } := by
  rw [State.call, State.push16_eq_pushed, State.jump]

theorem State.popPc_eq_popped (s : State) : s.popPc = { popped s with pc := popValue s } := by
  rw [State.popPc, State.pop16_eq_popped, State.jump]

theorem State.returnFromDivert_eq_popped (s : State) :
    s.returnFromDivert = { popped s with pc := popValue s, ime := true, imePending := false } := by
  rw [State.returnFromDivert, State.pop16_eq_popped]

theorem State.takeBranch_eq_surcharged (s : State) (kind : BranchKind) :
    s.takeBranch kind = surcharged s (takenExtra kind) := rfl

/-- A conditional row runs as its bytes, its base cost and its transfer say: taken, the transfer happens and carries its
surcharge; not taken, nothing happens (R171). -/
theorem runsAs_branchIf {i : Instr} {bytes : List Byte} {cost : Nat} {cc : Cond} {kind : BranchKind}
    {transfer effect : State → State} (hbytes : encode i = bytes)
    (hcost : bytes.headD 0 ≠ 0xCB ∧ primaryCost (bytes.headD 0) = cost)
    (hexec : ∀ s, exec i s = branchIf cc kind transfer s) (heffect : ∀ s, transfer s = effect s) :
    RunsAs i bytes cost fun s => if holds s cc then surcharged (effect s) (takenExtra kind) else s := by
  refine runsAs_of_exec hbytes hcost fun s => ?_
  rw [hexec, branchIf, heffect, State.takeBranch_eq_surcharged, holds_eq_cond]

/-- Settles O16: the target is the operand, `HL`, or the signed displacement added to `PC`. -/
theorem unconditionalJumps : Obligations.UnconditionalJumps := by
  have hcostJp : (0xC3 : Byte) ≠ 0xCB ∧ primaryCost 0xC3 = 16 := by decide
  have hcostJr : (0x18 : Byte) ≠ 0xCB ∧ primaryCost 0x18 = 12 := by decide
  refine ⟨fun nn => runsAs_of_exec rfl hcostJp (exec_jp_a16 nn), runsAs_of_exec rfl (by decide) exec_jp_HL,
    fun e => runsAs_of_exec rfl hcostJr fun s => ?_⟩
  rw [exec_jr_e8, State.jump_relTarget]

/-- Settles O17: each row is its jump behind its condition, with the surcharge 4. -/
theorem conditionalJumps : Obligations.ConditionalJumps := by
  have hcostJp (cc : Cond) : 0xC2 + 8 * condCode cc ≠ 0xCB ∧ primaryCost (0xC2 + 8 * condCode cc) = 12 := by
    cases cc <;> decide
  have hcostJr (cc : Cond) : 0x20 + 8 * condCode cc ≠ 0xCB ∧ primaryCost (0x20 + 8 * condCode cc) = 8 := by
    cases cc <;> decide
  exact ⟨fun cc nn => runsAs_branchIf (kind := .jp) (by cases cc <;> rfl) (hcostJp cc) (exec_jpIf cc nn) fun _ => rfl,
    fun cc e => runsAs_branchIf (kind := .jr) (by cases cc <;> rfl) (hcostJr cc) (exec_jrIf cc e)
      fun s => s.jump_relTarget e⟩

/-- Settles O18: both are `State.call`, which pushes the address past the instruction. -/
theorem callAndRestart : Obligations.CallAndRestart := by
  have hcostCall : (0xCD : Byte) ≠ 0xCB ∧ primaryCost 0xCD = 24 := by decide
  refine ⟨fun nn => runsAs_of_exec rfl hcostCall fun s => ?_,
    fun y => runsAs_of_exec (by fin_cases y <;> rfl) (by revert y; decide) fun s => ?_⟩
  · rw [exec_call_a16, State.call_eq_pushed]
  · rw [exec_rst, State.call_eq_pushed]

/-- Settles O19: each row is `State.call` behind its condition, with the surcharge 12. -/
theorem conditionalCall : Obligations.ConditionalCall := by
  have hcost (cc : Cond) : 0xC4 + 8 * condCode cc ≠ 0xCB ∧ primaryCost (0xC4 + 8 * condCode cc) = 12 := by
    cases cc <;> decide
  exact fun cc nn => runsAs_branchIf (kind := .call) (by cases cc <;> rfl) (hcost cc) (exec_callIf cc nn)
    fun s => s.call_eq_pushed nn

/-- Settles O20: each row pops `PC`; `RETI` sets IME beside it, and `RET cc` does it behind its condition. -/
theorem returns : Obligations.Returns := by
  refine ⟨runsAs_of_exec rfl (by decide) fun s => ?_, runsAs_of_exec rfl (by decide) fun s => ?_,
    fun cc => runsAs_branchIf (kind := .ret) (by cases cc <;> rfl) (by cases cc <;> decide) (exec_retIf cc)
      State.popPc_eq_popped⟩
  · rw [exec_ret, State.popPc_eq_popped]
  · rw [exec_reti, State.returnFromDivert_eq_popped]

end Sys2Proof.Machine
end

section
/-! The loads and stores: O21 to O25. The claims' `afterRead` and `afterWrite` are `State.memRead` and `State.memWrite` by
definition (R50). -/

namespace Sys2Proof.Machine

open Sys2Proof.Claims

/-- A primary row runs as its opcode byte, its operand bytes, its cost and its effect say: the cost is asked of the opcode
byte alone (R11, R72). -/
theorem runsAs_of_opcode {i : Instr} {b1 : Byte} {operands : List Byte} {cost : Nat} {effect : State → State}
    (hbytes : encode i = b1 :: operands) (hcost : b1 ≠ 0xCB ∧ primaryCost b1 = cost)
    (hexec : ∀ s, exec i s = .next (effect s)) : RunsAs i (b1 :: operands) cost effect :=
  runsAs_of_exec hbytes hcost hexec

/-- Settles O21: the destination is written with the source's value or with the immediate byte. -/
theorem loadRegisterMoves : Obligations.LoadRegisterMoves :=
  ⟨fun dst src => runsAs_of_opcode (by cases dst <;> cases src <;> rfl) (by cases dst <;> cases src <;> decide)
      (exec_ldReg dst src),
   fun dst v => runsAs_of_opcode (by cases dst <;> rfl) (by cases dst <;> decide) (exec_ldImm dst v)⟩

/-- Settles O22: the access is at the `HL` of the state before the destination is written. -/
theorem movesThroughHl : Obligations.MovesThroughHl :=
  ⟨fun dst => runsAs_of_opcode (by cases dst <;> rfl) (by cases dst <;> decide) (exec_ldLoad dst),
   fun r => runsAs_of_opcode (by cases r <;> rfl) (by cases r <;> decide) (exec_ldStore r),
   fun v => runsAs_of_opcode rfl (by decide) (exec_ld_mHL_d8 v)⟩

/-- An offset into the high page is added to 0xFF00 (R66, R190). -/
theorem highPageAddr_eq_ofNat (offset : Byte) : highPageAddr offset = BitVec.ofNat 16 (0xFF00 + offset.toNat) := by
  rw [BitVec.ofNat_add, BitVec.ofNat_toNat]
  rfl

/-- Settles O23: each row is one load of `A` or one store of `A` at its address. -/
theorem accumulatorMoves : Obligations.AccumulatorMoves := by
  unfold Obligations.AccumulatorMoves
  simp only [← highPageAddr_eq_ofNat]
  exact ⟨runsAs_of_opcode rfl (by decide) exec_ld_A_mBC, runsAs_of_opcode rfl (by decide) exec_ld_A_mDE,
    runsAs_of_opcode rfl (by decide) exec_ld_mBC_A, runsAs_of_opcode rfl (by decide) exec_ld_mDE_A,
    fun nn => runsAs_of_opcode rfl (by decide) (exec_ld_A_ma16 nn),
    fun nn => runsAs_of_opcode rfl (by decide) (exec_ld_ma16_A nn),
    fun o => runsAs_of_opcode rfl (by decide) (exec_ldh_A_ma8 o),
    fun o => runsAs_of_opcode rfl (by decide) (exec_ldh_ma8_A o),
    runsAs_of_opcode rfl (by decide) exec_ld_A_mC, runsAs_of_opcode rfl (by decide) exec_ld_mC_A⟩

/-- Settles O24: the access is at the old `HL`, and the step added to it is 1, or 65535 as -1 modulo 2^16. -/
theorem autoStepMoves : Obligations.AutoStepMoves := by
  refine ⟨runsAs_of_opcode rfl (by decide) fun s => ?_, runsAs_of_opcode rfl (by decide) fun s => ?_,
    runsAs_of_opcode rfl (by decide) fun s => ?_, runsAs_of_opcode rfl (by decide) fun s => ?_⟩
  · rw [exec_ld_A_mHLi, loadAHlStep_eq, BitVec.add_def]
    rfl
  · rw [exec_ld_A_mHLd, loadAHlStep_eq, BitVec.add_def]
    rfl
  · rw [exec_ld_mHLi_A, storeAHlStep_eq, BitVec.add_def]
    rfl
  · rw [exec_ld_mHLd_A, storeAHlStep_eq, BitVec.add_def]
    rfl

/-- Settles O25: a pair or `SP` is written, or `Write16` stores `SP`, low byte first. -/
theorem wordMoves : Obligations.WordMoves :=
  ⟨fun p nn => runsAs_of_opcode (by cases p <;> rfl) (by cases p <;> decide) (exec_ldImm16 p nn),
   runsAs_of_opcode rfl (by decide) exec_ld_SP_HL,
   fun nn => runsAs_of_opcode rfl (by decide) (exec_ld_ma16_SP nn)⟩

end Sys2Proof.Machine
end

section
/-! The stack moves of the pairs: O26 and O27. -/

namespace Sys2Proof.Machine

open Sys2Proof.Claims

/-- Settles O26: `Push16` of the pair, which is its high register and its low register. -/
theorem pushPair : Obligations.PushPair := by
  refine fun q => runsAs_of_opcode (by cases q <;> rfl) (by cases q <;> decide) fun s => ?_
  rw [exec_push, State.push16_eq_pushed]
  cases q <;> rfl

theorem hiByte_popValue (s : State) : hiByte (popValue s) = s.peek (s.sp + 1) := hiByte_word ..

theorem loByte_popValue (s : State) : loByte (popValue s) = s.peek s.sp := loByte_word ..

/-- Settles O27: `Pop16`, then the pair is written with the two bytes it read, `F` with its low nibble at 0. -/
theorem popPair : Obligations.PopPair := by
  refine fun q => runsAs_of_opcode (by cases q <;> rfl) (by cases q <;> decide) fun s => ?_
  rw [exec_pop, State.pop16_eq_popped]
  cases q with
  | bc => simp only [State.setStackReg, State.setBc, hiByte_popValue, loByte_popValue]
  | de => simp only [State.setStackReg, State.setDe, hiByte_popValue, loByte_popValue]
  | hl => simp only [State.setStackReg, State.setHl, hiByte_popValue, loByte_popValue]
  | af => simp only [State.setStackReg, State.setAf, hiByte_popValue, loByte_popValue]

end Sys2Proof.Machine
end

section
/-! The system rows and the escape: O28, O29, O31 and O30. -/

namespace Sys2Proof.Machine

open Sys2Proof.Claims

theorem State.fetchByte_eq_afterRead (s : State) :
    s.fetchByte = (s.peek s.pc, { afterRead s s.pc with pc := s.pc + 1 }) := rfl

/-- Settles O28: `NOP` and `HALT` by their rules, `STOP` by the two settings of `STOP_LENGTH`. -/
theorem nopHaltStop : Obligations.NopHaltStop := by
  refine ⟨runsAs_of_opcode rfl (by decide) exec_nop, runsAs_of_opcode rfl (by decide) exec_halt,
    runsAs_of_opcode rfl (by decide) fun s => ?_⟩
  rw [exec_stop, State.fetchByte_eq_afterRead]

/-- Under `EI_DELAY`, `EI` raises the pending enable where IME is clear, and leaves it where IME is set (R225). -/
theorem State.raisePending_eq (s : State) :
    (if s.ime then s else { s with imePending := true }) = { s with imePending := s.imePending || !s.ime } := by
  split
  · next hime =>
    have hkept : (s.imePending || !s.ime) = s.imePending := by simp [hime]
    rw [hkept]
  · next hime => simp [hime]

/-- Settles O29: `DI` by its rule, `EI` by the two settings of `EI_DELAY`. -/
theorem disableEnableInterrupts : Obligations.DisableEnableInterrupts := by
  refine ⟨runsAs_of_opcode rfl (by decide) exec_di, runsAs_of_opcode rfl (by decide) fun s => ?_⟩
  rw [exec_ei, State.raisePending_eq]

/-- The bytes of an illegal row are its code point alone (R227). -/
theorem encode_illegal (k : Fin 11) : encode (.illegal k) = [illegalSet.get k] := by
  revert k; decide

theorem illegal_wf (k : Fin 11) : (Instr.illegal k).wf = true := by
  revert k; decide

/-- Settles O31: the code point is read back as its row, and the row's rule is the latch of that byte. -/
theorem illegalCodePointsLatch : Obligations.IllegalCodePointsLatch := by
  refine fun k => ⟨illegalSet.get k, List.getElem?_eq_getElem k.isLt, encode_illegal k, fun rest => ?_, exec_illegal k⟩
  obtain ⟨hdecode, -⟩ := decodeOfEncode (.illegal k) rest (illegal_wf k)
  rwa [encode_illegal] at hdecode

/-- The dispatch on a selector, field by field, is the rule of the secondary table's entry (R79, R87). -/
theorem execSecondary_eq_exec (op2 : Byte) (s : State) : execSecondary op2 s = exec (secondaryTable op2) s := by
  obtain ⟨x, y, z, rfl⟩ : ∃ x y z, opByte x y z = op2 := ⟨_, _, _, opByte_fields op2⟩
  rw [execSecondary, secondaryTable_opByte, fieldX_opByte, fieldY_opByte, fieldZ_opByte, apply_pick4 (exec · s),
    exec_rot, exec_bit, exec_res, exec_set]
  rfl

theorem exec_prefix_CB (s : State) : exec .prefix_CB s = execSecondary s.fetchByte.1 s.fetchByte.2 := rfl

/-- Settles O30: what decodes is well-formed, which the escape is not; its rule is the fetch of the selector, then the
dispatch on it. -/
theorem escapeDispatchesSelector : Obligations.EscapeDispatchesSelector := by
  refine ⟨rfl, fun bs rest h => ?_, fun s => ?_⟩
  · obtain ⟨hwf, -⟩ := encodeOfDecode.1 bs .prefix_CB rest h
    cases hwf
  · obtain ⟨t, ht⟩ := exec_completes (secondaryTable_wf s.fetchByte.1) s.fetchByte.2
    exact ⟨t, by rw [exec_prefix_CB, execSecondary_eq_exec, ht], ht⟩

end Sys2Proof.Machine
end

section
/-! The control frame: O57. -/

namespace Sys2Proof.Machine

/-- `HALT` and `STOP` write the run-state alone of control state (R221, R222). -/
theorem exec_halt_or_stop_controlKept {i : Instr} (hi : i = .halt ∨ i = .stop) (s : State) :
    Ensures (exec i s) fun t => ControlKept { s with run := t.run } t := by
  rcases hi with rfl | rfl
  · simp [controlKept_iff]
  · rw [exec_stop, ensures_next]
    split <;> simp [controlKept_iff]

/-- `DI`, `EI` and `RETI` write the enables alone of control state (R181, R223, R224). -/
theorem exec_enables_controlKept {i : Instr} (hi : i = .di ∨ i = .ei ∨ i = .reti) (s : State) :
    Ensures (exec i s) fun t => ControlKept { s with ime := t.ime, imePending := t.imePending } t := by
  rcases hi with rfl | rfl | rfl
  · simp [controlKept_iff]
  · rw [exec_ei, State.raisePending_eq, ensures_next]
    split <;> simp [controlKept_iff]
  · simp [controlKept_iff]

/-- Every row keeps the parameters and the ports of the outside agents, those that write control state among them. -/
theorem exec_portsKept {i : Instr} (hwf : i.wf = true) (s : State) :
    Ensures (exec i s) fun t => t.cfg = s.cfg ∧ t.agenda = s.agenda ∧ t.acted = s.acted ∧ t.ret = s.ret := by
  intro t ht
  by_cases hrun : i = .halt ∨ i = .stop
  · obtain ⟨-, -, -, hcfg, hagenda, hacted, hret⟩ := exec_halt_or_stop_controlKept hrun s t ht
    exact ⟨hcfg, hagenda, hacted, hret⟩
  by_cases henables : i = .di ∨ i = .ei ∨ i = .reti
  · obtain ⟨-, -, -, hcfg, hagenda, hacted, hret⟩ := exec_enables_controlKept henables s t ht
    exact ⟨hcfg, hagenda, hacted, hret⟩
  have hi : i ∉ [.halt, .stop, .di, .ei, .reti] := by simpa [and_assoc] using not_or.2 ⟨hrun, henables⟩
  obtain ⟨-, -, -, hcfg, hagenda, hacted, hret⟩ := exec_controlKept hwf s hi t ht
  exact ⟨hcfg, hagenda, hacted, hret⟩

/-- Settles O57: any row but the five keeps all control state, each of the five keeps its part, and only the rows that
can fault touch the latch. -/
theorem controlFrame : Obligations.ControlFrame := by
  intro i s t hwf h
  refine ⟨fun hhalt hstop hdi hei hreti => ?_, fun hi => ?_, fun hi => ?_, fun hi => exec_fault hi s t h,
    exec_portsKept hwf s t h⟩
  · have hkept := exec_controlKept hwf s (by simp [hhalt, hstop, hdi, hei, hreti]) t h
    exact ⟨hkept.ime, hkept.imePending, hkept.run⟩
  · have hkept := exec_halt_or_stop_controlKept hi s t h
    exact ⟨hkept.ime, hkept.imePending⟩
  · exact (exec_enables_controlKept hi s t h).run

end Sys2Proof.Machine
end

section
/-! What a latched fault records: O52. -/

namespace Sys2Proof.Machine

/-- A rule keeps the latch, or it latches the record of an illegal byte, or that of an unwired selector (R83, R84): these
are the bytes its row is decoded from. -/
theorem exec_fault_or_record {i : Instr} (hwf : i.wf = true) (s : State) :
    Ensures (exec i s) fun t => t.fault = s.fault ∨ (∃ b1 ∈ illegalSet, t = s.latchIllegal b1) ∨
      ∃ op2, s.cfg.implements op2 = false ∧ t = s.latchUnimplemented op2 := by
  obtain ⟨b1, b2, b3, rfl⟩ : ∃ b1 b2 b3, decodeBytes b1 b2 b3 = i := ⟨_, _, _, (Instr.roundTrips hwf).2⟩
  intro t ht
  by_cases hmem : b1 ∈ illegalSet
  · cases ht.symm.trans (exec_decodeBytes_illegal hmem b2 b3 s)
    exact .inr (.inl ⟨b1, hmem, rfl⟩)
  by_cases hunwired : b1 = 0xCB ∧ s.cfg.implements b2 = false
  · obtain ⟨rfl, hw⟩ := hunwired
    cases ht.symm.trans (exec_decodeBytes_unwired hw b3)
    exact .inr (.inr ⟨b2, hw, rfl⟩)
  · exact .inl (exec_decodeBytes_fault hmem hunwired b3 t ht)

theorem State.latchSound_of_noFault {s : State} (hf : s.fault = none) : s.LatchSound := by
  rw [State.LatchSound, hf]
  exact trivial

/-- The record of an illegal byte that has just been fetched is sound (R83). -/
theorem State.latchIllegal_latchSound (s : State) {b1 : Byte} (h : b1 ∈ illegalSet) : (s.latchIllegal b1).LatchSound :=
  ⟨b1, h, rfl, (BitVec.sub_add_cancel s.pc 1).symm⟩

/-- The record of an unwired selector that has just been fetched behind the escape is sound (R84). -/
theorem State.latchUnimplemented_latchSound {s : State} {op2 : Byte} (h : s.cfg.implements op2 = false) :
    (s.latchUnimplemented op2).LatchSound :=
  ⟨op2, rfl, h, (BitVec.sub_add_cancel s.pc 2).symm⟩

/-- A rule that starts with no fault latched leaves the latch sound. -/
theorem exec_latchSound {i : Instr} (hwf : i.wf = true) {s : State} (hf : s.fault = none) :
    Ensures (exec i s) State.LatchSound := by
  intro t ht
  obtain hkept | ⟨b1, hmem, rfl⟩ | ⟨op2, hw, rfl⟩ := exec_fault_or_record hwf s t ht
  · exact State.latchSound_of_noFault (hkept.trans hf)
  · exact s.latchIllegal_latchSound hmem
  · exact State.latchUnimplemented_latchSound hw

/-- Sound latches are kept by every part of a move: what runs with no fault latched sets a sound record or none, the
external reset clears the latch (R247, R274), and every other part keeps the latch, `PC` and the parameters. -/
theorem latchSound_moveInvariant : MoveInvariant State.LatchSound where
  beginMove _ _ hs := hs
  beginStep _ hs := hs
  fetch s hf _ := by
    obtain ⟨pc, bus, hfetch⟩ := s.fetch_state
    rw [hfetch]
    exact State.latchSound_of_noFault hf
  exec _ _ t hwf hf _ h := exec_latchSound hwf hf t h
  endStep s pend cost hs := by
    obtain ⟨_, _, _, _, _, hend⟩ := s.endStep_frame pend cost
    rw [hend]
    exact hs
  idleStep _ hs := hs
  resume _ hs := hs
  divert _ _ hf _ _ := State.latchSound_of_noFault hf
  reset _ _ _ _ := trivial
  memoryChange _ _ _ hs := hs

/-- Settles O52: each part of a move keeps the latch sound, the rules by the records they latch. -/
theorem faultLatchStaysSound : Obligations.FaultLatchStaysSound :=
  fun _ _ hs h => latchSound_moveInvariant.step hs h

end Sys2Proof.Machine
end

section
/-! Completion, and the step of a faulted core: O32 and O36. -/

namespace Sys2Proof.Machine

/-- Settles O32: the escape answers what the secondary row of its selector answers, every other rule answers a next state,
and only the rows that can fault touch the latch. -/
theorem everyInstructionCompletes : Obligations.EveryInstructionCompletes := by
  intro i s
  obtain ⟨t, ht⟩ : ∃ t, exec i s = .next t := by
    by_cases hi : i = .prefix_CB
    · rw [hi, exec_prefix_CB, execSecondary_eq_exec]
      exact exec_completes (secondaryTable_wf _) _
    · exact exec_completes (wf_iff_ne_prefix_CB.2 hi) s
  exact ⟨t, ht, fun hi => exec_fault hi s t ht⟩

/-- Settles O36: the latch is looked at before anything else. -/
theorem latchedFaultStep : Obligations.LatchedFaultStep := by
  intro s record hm hf
  rw [step_eq hm, hf]

end Sys2Proof.Machine
end

section
/-! The moves of the collaborator and of another component: O44, O45 and O47. -/

namespace Sys2Proof.Machine

/-- The state a due move starts from: the ports clear, the move off the agenda (R249). -/
def State.moveStart (s : State) (rest : List Move) : State := { s.beginMove with agenda := rest }

theorem step_resume {s : State} {rest : List Move} (hm : s.agenda = .resume :: rest) :
    step s = (s.moveStart rest).resume := step_of_move hm

theorem step_divert {s : State} {rest : List Move} {vector : Word} (hm : s.agenda = .divert vector :: rest) :
    step s = (s.moveStart rest).divert vector := step_of_move hm

/-- An action of the collaborator is refused while a fault is latched (R252). -/
theorem State.collaborate_faulted {s : State} (hf : s.fault ≠ none) (effect : State → State) :
    s.collaborate effect = .refused .actionWhileFaulted :=
  if_pos (Option.isSome_iff_ne_none.2 hf)

/-- A second action between two steps is refused (R254). -/
theorem State.collaborate_second {s : State} (hf : s.fault = none) (ha : s.acted = true) (effect : State → State) :
    s.collaborate effect = .refused .secondAction := by
  simp [State.collaborate, hf, ha]

/-- `Divert` is refused while IME is false (R252). -/
theorem State.divert_disabled {s : State} (hf : s.fault = none) (hi : s.ime = false) (vector : Word) :
    s.divert vector = .refused .divertWhileDisabled := by
  simp [State.divert, hf, hi]

/-- With a fault latched or IME set, `Divert` is an action of the collaborator like any other (R249). -/
theorem State.divert_eq_collaborate {s : State} (h : s.fault ≠ none ∨ s.ime = true) (vector : Word) :
    s.divert vector = s.collaborate fun s => s.takeDivert vector :=
  if_neg (by simpa [Option.isNone_iff_eq_none, imp_iff_not_or] using h)

/-- `Resume` of a running core leaves it as it was, and counts as an action (log entries 10 and 17). -/
theorem State.resume_running {s : State} (hf : s.fault = none) (ha : s.acted = false) (hr : s.run = .running) :
    s.resume = .next { s with acted := true } :=
  (State.collaborate_next hf ha _).trans (by rw [← hr])

/-- Settles O44: the action is allowed, so that its effect happens and is marked. -/
theorem resumeAndDivertMoves : Obligations.ResumeAndDivertMoves := by
  refine ⟨fun s rest hm hf ha _ => ?_, fun s rest vector hm hf ha hi => ?_⟩
  · exact (step_resume hm).trans (State.collaborate_next (s := s.moveStart rest) hf ha _)
  · exact (step_divert hm).trans (State.divert_next (s := s.moveStart rest) hf hi ha vector)

/-- Settles O45: a refusal for each cause, the `Resume` that changes nothing of the core, and the byte that changes. -/
theorem otherMoves : Obligations.OtherMoves := by
  refine ⟨fun s rest vector hm hf hi => ?_, fun s rest vector hf => ⟨fun hm => ?_, fun hm => ?_⟩,
    fun s rest vector hf ha => ⟨fun hm => ?_, fun hm hi => ?_⟩, fun s rest hm hf ha hr => ?_,
    fun s rest addr v hm => step_of_move hm⟩
  · exact (step_divert hm).trans (State.divert_disabled (s := s.moveStart rest) hf hi vector)
  · exact (step_resume hm).trans (State.collaborate_faulted (s := s.moveStart rest) hf _)
  · rw [step_divert hm, State.divert_eq_collaborate (s := s.moveStart rest) (.inl hf)]
    exact State.collaborate_faulted (s := s.moveStart rest) hf _
  · exact (step_resume hm).trans (State.collaborate_second (s := s.moveStart rest) hf ha _)
  · rw [step_divert hm, State.divert_eq_collaborate (s := s.moveStart rest) (.inr hi)]
    exact State.collaborate_second (s := s.moveStart rest) hf ha _
  · exact (step_resume hm).trans (State.resume_running (s := s.moveStart rest) hf ha hr)

/-- `RETI` after `Divert`: a pop after the push of `PC`, which reads that `PC` back, with IME set (R181, R251, R255). -/
theorem exec_reti_takeDivert {s : State} (hs : s.MemoryCanonical) (vector : Word) :
    exec .reti { s.takeDivert vector with acted := true } =
      .next { (s.push16 s.pc).pop16.2 with
        pc := s.pc, ime := true, imePending := false, run := .running, acted := true } := by
  have hpc : { s.takeDivert vector with acted := true }.pop16.1 = s.pc := State.pop16_push16_value hs s.pc
  rw [exec_reti, State.returnFromDivert, hpc]
  rfl

/-- Settles O47: the pop undoes the push of the divert, and neither touches a register, `F` or time. -/
theorem divertThenReti : Obligations.DivertThenReti := by
  intro s vector hs hf ha hi
  refine ⟨_, _, State.divert_next hf hi ha vector, exec_reti_takeDivert hs vector, rfl, ?_, rfl, rfl, rfl, ?_, ?_,
    fun r => ?_⟩
  · simp only [State.pop16_sp, State.push16_sp, BitVec.sub_add_cancel]
  · simp only [State.pop16_f, State.push16_f]
  · simp only [State.pop16_ticks, State.push16_ticks]
  · simp [State.reg8]

end Sys2Proof.Machine
end

section
/-! What no move writes, and what every move leaves clear: O53. -/

namespace Sys2Proof.Machine

/-- A row leaves the latch as it was, or the surcharge: a row that latches a fault does nothing else (R83, R84). -/
theorem exec_fault_or_extra {i : Instr} (hwf : i.wf = true) (s : State) :
    Ensures (exec i s) fun t => t.fault = s.fault ∨ t.extra = s.extra := by
  intro t ht
  obtain hfault | ⟨record, rfl⟩ := exec_fault_or_latch hwf s t ht
  · exact .inl hfault
  · exact .inr (s.latchFault_extra record)

theorem State.endStep_cfg_agenda (s : State) (pend : Bool) (cost : Nat) :
    (s.endStep pend cost).cfg = s.cfg ∧ (s.endStep pend cost).agenda = s.agenda := by
  obtain ⟨_, _, _, _, _, hend⟩ := s.endStep_frame pend cost
  rw [hend]
  exact ⟨rfl, rfl⟩

/-- The end of a step spends the surcharge when it accounts for the instruction (R86), and keeps it when it returns a
fault (R243). -/
theorem State.endStep_noSurchargeLeft {s : State} (hs : s.fault = none ∨ s.NoSurchargeLeft) (pend : Bool)
    (cost : Nat) : (s.endStep pend cost).NoSurchargeLeft := by
  cases hf : s.fault with
  | none =>
    rw [State.endStep_of_none hf, State.finishStep_eq]
    split <;> rfl
  | some record =>
    rw [State.endStep_of_fault hf]
    exact hs.resolve_left (by simp [hf])

/-- The scheduler's step writes neither the parameters nor the agenda, and a surcharge raised by its rule is spent. -/
theorem coreStep_portsKept {s t : State} (hs : s.NoSurchargeLeft) (h : coreStep s = .next t) :
    t.cfg = s.cfg ∧ t.agenda = s.agenda ∧ t.NoSurchargeLeft := by
  obtain ⟨hf, ⟨-, h⟩ | ⟨-, rfl⟩⟩ := coreStep_inv h
  · obtain ⟨u, hu, rfl⟩ := runStep_inv h
    obtain ⟨pc, bus, hfetch⟩ := s.fetch_state
    rw [hfetch] at hu
    obtain ⟨hcfg, hagenda, -, -⟩ := exec_portsKept s.fetch_instr_wf _ u hu
    have hextra := (exec_fault_or_extra s.fetch_instr_wf _ u hu).imp (·.trans hf) (·.trans hs)
    obtain ⟨hcfg', hagenda'⟩ := u.endStep_cfg_agenda s.imePending (chargedCost s.cfg s.fetch.b1 s.fetch.b2)
    exact ⟨hcfg'.trans hcfg, hagenda'.trans hagenda, State.endStep_noSurchargeLeft hextra _ _⟩
  · exact ⟨rfl, rfl, hs⟩

/-- No move writes the parameters or the rest of the agenda, the external reset included (R272). -/
theorem makeMove_portsKept {m : Move} {s t : State} (hs : s.NoSurchargeLeft) (h : makeMove m s = .next t) :
    t.cfg = s.cfg ∧ t.agenda = s.agenda ∧ t.NoSurchargeLeft := by
  cases m with
  | step => exact coreStep_portsKept (s := s.beginStep) hs h
  | resume =>
    obtain ⟨-, -, rfl⟩ := State.resume_inv h
    exact ⟨rfl, rfl, hs⟩
  | divert vector =>
    obtain ⟨-, -, -, rfl⟩ := State.divert_inv h
    exact ⟨rfl, rfl, hs⟩
  | reset init =>
    obtain ⟨-, rfl⟩ := State.externalReset_inv h
    exact ⟨rfl, rfl, rfl⟩
  | memoryChange addr v =>
    cases h
    exact ⟨rfl, rfl, hs⟩

/-- Settles O53: a move starts from clear ports with itself off the agenda, and keeps what it finds there. -/
theorem parametersNeverChange : Obligations.ParametersNeverChange := by
  intro s t h
  cases hm : s.agenda with
  | nil =>
    rw [step_of_noMove hm] at h
    obtain ⟨hcfg, hagenda, hextra⟩ := coreStep_portsKept (s := s.beginMove.beginStep) rfl h
    exact ⟨hcfg, hagenda.trans hm, hextra⟩
  | cons m rest =>
    rw [step_of_move hm] at h
    exact makeMove_portsKept (s := s.moveStart rest) rfl h

end Sys2Proof.Machine
end

section
/-! The initial states: O46 and O48. -/

namespace Sys2Proof.Machine

theorem step_reset {s : State} {rest : List Move} {init : InitState} (hm : s.agenda = .reset init :: rest) :
    step s = (s.moveStart rest).externalReset init := step_of_move hm

theorem InitState.admitted_iff (init : InitState) : init.admitted = true ↔ init.f &&& 0x0F = 0 := beq_iff_eq

/-- The external reset to an initial state that R271 admits (R274). -/
theorem State.externalReset_next (s : State) {init : InitState} (h : init.f &&& 0x0F = 0) :
    s.externalReset init = .next { State.ofInit init s.cfg s.mem with agenda := s.agenda } :=
  if_pos (init.admitted_iff.2 h)

/-- An initial state that R271 does not admit is refused, not repaired. -/
theorem State.externalReset_refused (s : State) {init : InitState} (h : init.f &&& 0x0F ≠ 0) :
    s.externalReset init = .refused .initStateNotAdmitted :=
  if_neg (mt init.admitted_iff.1 h)

/-- Settles O46: the reset is looked at before the latch, and asks nothing but that its initial state is admitted. -/
theorem externalReset : Obligations.ExternalReset :=
  fun s rest _ hm => ⟨fun h => (step_reset hm).trans ((s.moveStart rest).externalReset_next h),
    fun h => (step_reset hm).trans ((s.moveStart rest).externalReset_refused h)⟩

/-- A core that starts from an admitted initial state, with canonical memory, has every invariant the moves keep. -/
theorem State.ofInit_sound {init : InitState} (hf : init.f &&& 0x0F = 0) (cfg : Config) {mem : Memory}
    (hmem : Memory.wf mem = true) :
    (State.ofInit init cfg mem).FlagLowNibbleZero ∧ (State.ofInit init cfg mem).MemoryCanonical ∧
      (State.ofInit init cfg mem).PendingSound ∧ (State.ofInit init cfg mem).LatchSound ∧
      (State.ofInit init cfg mem).NoSurchargeLeft :=
  ⟨hf, hmem, nofun, trivial, rfl⟩

/-- Settles O48: the fields are those of preset P0, which R271 admits, and no cell of memory is listed. -/
theorem resetIsPresetP0 : Obligations.ResetIsPresetP0 :=
  ⟨by decide, State.ofInit_sound (by decide) Config.standard rfl⟩

end Sys2Proof.Machine
end

section
/-! Words written out from the grids of R81 and R82: O43. -/

namespace Sys2Proof

/-- A word decodes to the instruction it encodes, with nothing left over. -/
theorem decode_of_encode_eq {i : Instr} {bytes : List Byte} (hbytes : encode i = bytes) (hwf : i.wf = true) :
    decode bytes = .ok (i, []) := by
  obtain ⟨hread, -⟩ := decodeOfEncode i [] hwf
  rwa [hbytes, List.append_nil] at hread

/-- Settles O43: each word is the encoding of its instruction, by evaluation, and so decodes to it. -/
theorem sampleWordsDecode : Obligations.SampleWordsDecode := by
  refine ⟨?_, ?_, ?_, ?_, ?_, ?_, ?_, ?_, ?_, ?_, ?_, ?_, ?_, ?_, ?_, ?_⟩ <;> exact decode_of_encode_eq rfl rfl

end Sys2Proof
end
